-- ==== Sys2Proof/Word.lean ====
section
/-! DEFINITION. The words of the FT430: the byte of its frames, the 16-bit word of its local port and
parameter store, the station number. -/

namespace Sys2Proof

/-- A byte of a share frame or an inverter frame. -/
abbrev Byte := BitVec 8

/-- A word of the local port (R170) and of the parameter store (R187). -/
abbrev Word := BitVec 16

/-- A station number, as strapped: 0..3 (R2). -/
abbrev Station := Fin 4

/-- A handover tag: 0..15, where 0 says that no handover is open (R132, R199). -/
abbrev Tag := Fin 16

end Sys2Proof
end

