-- ==== Sys2Proof/Syntax.lean ====
section
/-! DEFINITION. The commands and events of the station: one constructor per row of spec/opcode_table.json.

A local port command stands for its WHOLE transaction, from the fall of CSn to its rise: the argument byte of the command
word, and every whole parameter word that came after it, needed or not (R170, R172). So a transaction
that is too short, or padded with words of 0 to clock out a reply, is a term of its own. -/

namespace Sys2Proof

/-- The two wheel pulse inputs WP0 and WP1 (R62). -/
inductive Wheel where
  | wheel0
  | wheel1
deriving DecidableEq, Repr

/-- The commands and events of the table. -/
inductive Instr where
  /-- POWER_ON_RESET (R3): supply and CLK16 have become valid; the levels of the straps at this moment. -/
  | powerOnReset (stn1 stn0 : Bool)
  /-- RSTN_ASSERT (R4): RSTn falls. -/
  | rstnAssert
  /-- RSTN_RELEASE (R4): RSTn rises; the levels of the straps at this moment. -/
  | rstnRelease (stn1 stn0 : Bool)
  /-- RESET_STATION, code 1Fh (R5). -/
  | resetStation (arg : Byte) (words : List Word)
  /-- START, code 10h (R6, R16). -/
  | start (arg : Byte) (words : List Word)
  /-- STOP, code 11h (R12). -/
  | stop (arg : Byte) (words : List Word)
  /-- SET_WINDOW, code 01h (R173): the parameter words first and last. -/
  | setWindow (arg : Byte) (words : List Word)
  /-- WRITE_WORDS, code 02h (R174, R175): the end of its transaction. `words` are ALL its whole parameter
  words, those a PARAMETER_WORD_TAKEN has already acted on included. -/
  | writeWords (count : Byte) (words : List Word)
  /-- READ_WORDS, code 03h (R176). -/
  | readWords (count : Byte) (words : List Word)
  /-- SET_DEMAND, code 20h (R178): the mode, and the demand as parameter word. -/
  | setDemand (mode : Byte) (words : List Word)
  /-- SET_LIMITS, code 21h (R180): the immediate flag, and the drive and regen limits as parameter words. -/
  | setLimits (immediate : Byte) (words : List Word)
  /-- READ_STATUS, code 30h (R182). -/
  | readStatus (arg : Byte) (words : List Word)
  /-- READ_SNAPSHOT, code 31h (R184). -/
  | readSnapshot (arg : Byte) (words : List Word)
  /-- READ_PEER, code 32h (R185): the station number asked for. -/
  | readPeer (number : Byte) (words : List Word)
  /-- READ_DIAG, code 33h (R186). -/
  | readDiag (arg : Byte) (words : List Word)
  /-- A transaction whose command code names no command (R172). -/
  | unknownCommand (code arg : Byte) (words : List Word)
  /-- A transaction that ends before its command word is whole (R170). -/
  | incompleteTransaction
  /-- PERIOD_TIMER_EXPIRY (R63). `elapsed` is the time in µs since the previous command that carries one,
  or since the end of the reset where none came after it. -/
  | periodTimerExpiry (elapsed : BitVec 32)
  /-- VIEW_LATCH (R48), on the WSU's publication. -/
  | viewLatch
  /-- SLIP_EVALUATION (R74), on the view's publication. -/
  | slipEvaluation
  /-- HANDOVER_STEP (R129), on the Slip Unit's publication. -/
  | handoverStep
  /-- ALLOCATION_COMPUTATION (R104), on the Handover Unit's publication. -/
  | allocationComputation
  /-- COMMAND_SHAPING (R152), on the Allocation Engine's publication. -/
  | commandShaping
  /-- PMK_PULSE_END (R198): 2 µs have passed since the last pulse request. -/
  | pmkPulseEnd
  /-- WHEEL_PULSE (R62): a rising edge on WPn. `elapsed` as in `periodTimerExpiry`. -/
  | wheelPulse (wheel : Wheel) (elapsed : BitVec 32)
  /-- INTERFRAME_GAP (R18, R21): the bus has been idle for 8 bit times. -/
  | interframeGap
  /-- CONTENTION_LOST (R21). -/
  | contentionLost
  /-- TX_ERROR (R23). -/
  | txError
  /-- FRAME_TX_COMPLETE (R22). -/
  | frameTxComplete
  /-- FRAME_RECEIVED (R19, R31): a collected frame ends; the bytes collected, first byte first. -/
  | frameReceived (bytes : List Byte)
  /-- SUPPLY_OR_CLOCK_INVALID (R3). -/
  | supplyOrClockInvalid
  /-- FIRST_START_BIT_AFTER_GAP (R19, R21): another station's start bit. -/
  | firstStartBitAfterGap
  /-- PARAMETER_WORD_TAKEN (R174): the sixteenth bit of a parameter word of a WRITE_WORDS transaction has
  been taken; the count that transaction's command word carries, and the word. -/
  | parameterWordTaken (count : Byte) (word : Word)
deriving DecidableEq, Repr

end Sys2Proof
end

