-- ==== Sys2Proof/Decode.lean ====
section
/-! DEFINITION. The decoder. The table's rows give no bits, so no word of the table spells a command
(`decodeTableWord`). The local port does have an encoding: the words of a transaction (R170, R172, R201) and
their bits on SDI, decoded and encoded here. -/

namespace Sys2Proof

/-- The command a word of the table spells: none, since no row of the table gives bits. -/
def decodeTableWord (_nbits _w : Nat) : Option Instr := none

/-- The command code of a command word: bits 15..8 (R201). -/
def commandCode (w : Word) : Byte := BitVec.ofNat 8 (w.toNat / 256)

/-- The argument of a command word: bits 7..0 (R201). -/
def commandArg (w : Word) : Byte := BitVec.ofNat 8 (w.toNat % 256)

/-- A command word from its code and argument (R201). -/
def commandWord (code arg : Byte) : Word := BitVec.ofNat 16 (code.toNat * 256 + arg.toNat)

/-- The command of a transaction, from its code, argument and parameter words (R172 to R186). -/
def decodeCommand (code arg : Byte) (words : List Word) : Instr :=
  if code = 0x01 then .setWindow arg words
  else if code = 0x02 then .writeWords arg words
  else if code = 0x03 then .readWords arg words
  else if code = 0x10 then .start arg words
  else if code = 0x11 then .stop arg words
  else if code = 0x1F then .resetStation arg words
  else if code = 0x20 then .setDemand arg words
  else if code = 0x21 then .setLimits arg words
  else if code = 0x30 then .readStatus arg words
  else if code = 0x31 then .readSnapshot arg words
  else if code = 0x32 then .readPeer arg words
  else if code = 0x33 then .readDiag arg words
  else .unknownCommand code arg words

/-- The command a transaction of the local port carries, from the whole words taken while CSn was low (R170). -/
def decodeTransaction : List Word → Instr
  | [] => .incompleteTransaction
  | w :: words => decodeCommand (commandCode w) (commandArg w) words

/-! ## The bits of a transaction (R170, R201) -/

/-- The number a list of bits spells, the first bit the most significant. -/
def bitsNumber (bits : List Bool) : Nat := bits.foldl (fun v b => 2 * v + b.toNat) 0

/-- The bits of a word in the order they go over the local port: bit 15 first (R170, R201). -/
def wordBits (w : Word) : List Bool := (List.range 16).map (fun j => w.getLsbD (15 - j))

/-- The words counted from the bits on SDI, with the bits of the present word taken so far: a word counts when its
sixteenth bit has been taken, and the bits after the last whole word are discarded (R170). -/
def collectWords (taken : List Bool) : List Bool → List Word
  | [] => []
  | b :: rest =>
    if taken.length < 15 then collectWords (taken ++ [b]) rest
    else BitVec.ofNat 16 (bitsNumber (taken ++ [b])) :: collectWords [] rest

/-- The words of a transaction, from the bits taken on SDI at the rising edges of SCK between the fall of CSn and its
rise (R170). -/
def transactionWords (bits : List Bool) : List Word := collectWords [] bits

/-- The command a transaction carries, from its bits (R170). -/
def decodeBits (bits : List Bool) : Instr := decodeTransaction (transactionWords bits)

/-- The words of the transaction that carries a command, for the commands of the local port. -/
def encodeTransaction : Instr → Option (List Word)
  | .setWindow arg words => some (commandWord 0x01 arg :: words)
  | .writeWords count words => some (commandWord 0x02 count :: words)
  | .readWords count words => some (commandWord 0x03 count :: words)
  | .start arg words => some (commandWord 0x10 arg :: words)
  | .stop arg words => some (commandWord 0x11 arg :: words)
  | .resetStation arg words => some (commandWord 0x1F arg :: words)
  | .setDemand mode words => some (commandWord 0x20 mode :: words)
  | .setLimits immediate words => some (commandWord 0x21 immediate :: words)
  | .readStatus arg words => some (commandWord 0x30 arg :: words)
  | .readSnapshot arg words => some (commandWord 0x31 arg :: words)
  | .readPeer number words => some (commandWord 0x32 number :: words)
  | .readDiag arg words => some (commandWord 0x33 arg :: words)
  | .unknownCommand code arg words => some (commandWord code arg :: words)
  | .incompleteTransaction => some []
  | .powerOnReset _ _ => none
  | .rstnAssert => none
  | .rstnRelease _ _ => none
  | .periodTimerExpiry _ => none
  | .viewLatch => none
  | .slipEvaluation => none
  | .handoverStep => none
  | .allocationComputation => none
  | .commandShaping => none
  | .pmkPulseEnd => none
  | .wheelPulse _ _ => none
  | .interframeGap => none
  | .contentionLost => none
  | .txError => none
  | .frameTxComplete => none
  | .frameReceived _ => none
  | .supplyOrClockInvalid => none
  | .firstStartBitAfterGap => none
  | .parameterWordTaken _ _ => none

/-- The bits a host sends on SDI for a command of the local port (R170). -/
def encodeBits (c : Instr) : Option (List Bool) := (encodeTransaction c).map (fun ws => ws.flatMap wordBits)

end Sys2Proof
end

