-- ==== Sys2Proof/Config.lean ====
section
/-! DEFINITION. What the part fixes: the identity words of the store (R187). The manual leaves no value
open in any state a run reaches, so no free value (an uninterpreted constant) stands here. -/

namespace Sys2Proof.Config

/-- Store word 0, the part code (R187). -/
def partCode : Word := 0x0430

/-- Store word 1, the revision of the part the manual describes (R187). -/
def revision : Word := 0x0001

/-- Store word 3, the store format version (R187). -/
def formatVersion : Word := 0x0001

end Sys2Proof.Config
end

