-- ==== Sys2Proof/Machine/Params.lean ====
section
/-! DEFINITION. The parameter store map of R203: the index, range and default of every word 4..148. -/

namespace Sys2Proof.Machine

/-! The indices of the parameters (R203). -/

abbrev Idx.mask : Nat := 4
abbrev Idx.dMax : Nat := 5
abbrev Idx.freshBound : Nat := 6      -- S
abbrev Idx.graceBound : Nat := 7      -- G
abbrev Idx.lListen : Nat := 8
abbrev Idx.quietCount : Nat := 9      -- Q
abbrev Idx.sOn : Nat := 10
abbrev Idx.sHys : Nat := 11
abbrev Idx.cut : Nat := 12
abbrev Idx.hSlip : Nat := 13
abbrev Idx.recStep : Nat := 14
abbrev Idx.tlMin : Nat := 15
abbrev Idx.aUp : Nat := 16
abbrev Idx.aDown : Nat := 17
abbrev Idx.hHo : Nat := 18
abbrev Idx.tHo : Nat := 19
abbrev Idx.dTol : Nat := 20
abbrev Idx.tDis : Nat := 21
abbrev Idx.weights : Nat := 22
abbrev Idx.profile : Nat := 54
abbrev Idx.pattern : Nat := 118
abbrev Idx.dist0 : Nat := 134
abbrev Idx.dist1 : Nat := 135
abbrev Idx.trim0 : Nat := 136
abbrev Idx.trim1 : Nat := 137
abbrev Idx.ratio : Nat := 138
abbrev Idx.motorPeak : Nat := 139
abbrev Idx.drivePeak : Nat := 140
abbrev Idx.regenPeak : Nat := 141
abbrev Idx.riseStep : Nat := 142
abbrev Idx.fallStep : Nat := 143
abbrev Idx.nA : Nat := 144
abbrev Idx.nB : Nat := 145
abbrev Idx.tDem : Nat := 146
abbrev Idx.markerMode : Nat := 147
abbrev Idx.silentTime : Nat := 148

/-- One row of the map of R203: a parameter that is an unsigned number with a fixed range. -/
structure ParamRow where
  index : Nat
  lo : Nat
  hi : Nat
  default : Nat
deriving DecidableEq, Repr

/-- The shared parameters 4..21 of R203. Index 11 (S_hys) has a range that depends on word 10; the row
holds its lowest value and its default, and `outOfRange` and `State.sHys` take the highest from word 10. -/
def sharedRows : List ParamRow :=
  [⟨4, 0, 15, 3⟩, ⟨5, 1000, 20000, 8000⟩, ⟨6, 1, 15, 3⟩, ⟨7, 0, 15, 5⟩, ⟨8, 10, 250, 50⟩,
   ⟨9, 50, 4000, 500⟩, ⟨10, 20, 500, 120⟩, ⟨11, 0, 499, 40⟩, ⟨12, 1, 8, 4⟩, ⟨13, 1, 100, 10⟩,
   ⟨14, 1, 500, 20⟩, ⟨15, 0, 2000, 200⟩, ⟨16, 1, 255, 5⟩, ⟨17, 1, 255, 10⟩, ⟨18, 50, 5000, 300⟩,
   ⟨19, 10, 250, 60⟩, ⟨20, 0, 2000, 200⟩, ⟨21, 1, 250, 20⟩]

/-- The local parameters of R203 that are unsigned: all of 134..148 but the two trims. -/
def localRows : List ParamRow :=
  [⟨134, 500, 10000, 5200⟩, ⟨135, 500, 10000, 5200⟩, ⟨138, 256, 8192, 3072⟩, ⟨139, 40, 4000, 2400⟩,
   ⟨140, 0, 20000, 7000⟩, ⟨141, 0, 20000, 3000⟩, ⟨142, 1, 400, 40⟩, ⟨143, 1, 800, 80⟩,
   ⟨144, 1, 8, 4⟩, ⟨145, 1, 8, 4⟩, ⟨146, 20, 250, 50⟩, ⟨147, 0, 2, 1⟩, ⟨148, 20, 2000, 200⟩]

/-- The row of R203 for index i. Weights (0..255, default 1), profile entries (0..7, default 0) and the
rest have rows by area; a pattern entry and a trim have no unsigned range and get the whole word. -/
def paramRow (i : Nat) : ParamRow :=
  match (sharedRows ++ localRows).find? (fun r => r.index == i) with
  | some r => r
  | none =>
    if 22 ≤ i ∧ i ≤ 53 then ⟨i, 0, 255, 1⟩
    else if 54 ≤ i ∧ i ≤ 117 then ⟨i, 0, 7, 0⟩
    else if 118 ≤ i ∧ i ≤ 133 then ⟨i, 0, 65535, 0x0800⟩
    else ⟨i, 0, 65535, 0⟩

/-- The default of store word i, 4..148 (R188, R203). -/
def defaultWord (i : Nat) : Word := BitVec.ofNat 16 (paramRow i).default

/-- The number of configuration words, 4..148. -/
abbrev configWords : Nat := 145

/-- The default contents of words 4..148 (R188). -/
def defaultWords : Vector Word configWords :=
  ⟨⟨(List.range configWords).map (fun k => defaultWord (k + 4))⟩, by simp⟩

/-- A natural number held to lo..hi (R67). -/
def holdNat (lo hi v : Nat) : Nat := max lo (min hi v)

/-- An integer held to lo..hi. -/
def holdInt (lo hi v : Int) : Int := max lo (min hi v)

end Sys2Proof.Machine
end

