-- ==== Sys2Proof/Machine/Blocks.lean ====
section
/-! DEFINITION. The state of each block of the station, as plain data, with its value after every reset. -/

namespace Sys2Proof.Machine

/-! ## Names that several blocks use -/

/-- The life-cycle state (R1). -/
inductive LifeState where
  | config | listen | run | stopping | stopped
deriving DecidableEq, Repr

/-- The stop cause (R1). -/
inductive StopCause where
  | none | host | duplicate
deriving DecidableEq, Repr

/-- The sign of a demand: positive, negative or zero (R75, R103). -/
inductive Sign where
  | negative | zero | positive
deriving DecidableEq, Repr

/-- The mode the host gives with SET_DEMAND (R88). -/
inductive Mode where
  | road | tow | terrain | crawl
deriving DecidableEq, Repr

/-- The basis of the split (R93). -/
inductive Basis where
  | normal | fallback | isolated
deriving DecidableEq, Repr

/-- The announced interval, 1 or 16 periods (R25). -/
inductive Interval where
  | one | sixteen
deriving DecidableEq, Repr

/-- The length of an interval in periods. -/
def Interval.periods : Interval → Nat
  | .one => 1
  | .sixteen => 16

/-- The age class of a peer entry (R45). -/
inductive AgeClass where
  | fresh | grace | lost | never
deriving DecidableEq, Repr

/-- The health classes collected by the latch and carried by a frame (R29). -/
structure HealthClasses where
  error : Bool
  warning : Bool
deriving DecidableEq, Repr

/-- The latch that holds nothing. -/
def HealthClasses.empty : HealthClasses := ⟨false, false⟩

/-- Two health fields combined: what either reports, the combination reports (R20). -/
def HealthClasses.combine (a b : HealthClasses) : HealthClasses :=
  ⟨a.error || b.error, a.warning || b.warning⟩

/-- Which publication of the period computation is outstanding, waiting for the block that takes it up. -/
inductive Stage where
  /-- no computation is under way -/
  | none
  /-- the WSU has published the axle sample (R72) -/
  | sample
  /-- the PT has published the period view (R48) -/
  | view
  /-- the SLU has published (R86) -/
  | slip
  /-- the HOU has published L_ho or none (R129) -/
  | hold
  /-- the ALE has published the share (R106) -/
  | share
deriving DecidableEq, Repr

/-! ## The share frame (R27, R199) -/

/-- An echo entry: an originator station and a handover tag. -/
structure EchoEntry where
  originator : Station
  tag : Tag
deriving DecidableEq, Repr

/-- The fields of a share frame. The kind is base plus extension exactly when a digest is present, the
echo count is the length of the list of entries, and the check code is computed (R199). -/
structure ShareFrame where
  sender : Station
  seq : Byte
  state : LifeState
  basis : Basis
  interval : Interval
  health : HealthClasses
  mode : Mode
  slipFlag : Bool
  tag : Tag
  demand : Int
  applied : Int
  driveCapacity : Nat
  regenCapacity : Nat
  axleSpeed : Nat
  riseStep : Nat
  echoes : List EchoEntry
  digest : Option Word
deriving DecidableEq, Repr

/-! ## Station control (R1) -/

structure Control where
  state : LifeState
  stopCause : StopCause
  refusalCode : Nat
  refusalIndex : Nat
  strap : Station
  dupLatch : Bool
  listenCounter : Nat
deriving DecidableEq, Repr

/-- Station control after a reset; the strap number is sampled or kept (R1). -/
def Control.reset (strap : Station) : Control where
  state := .config
  stopCause := .none
  refusalCode := 0
  refusalIndex := 0
  strap := strap
  dupLatch := false
  listenCounter := 0

/-! ## Wheel Speed Unit (R62 to R73) -/

/-- The pulse history of one wheel. -/
structure WheelHistory where
  lastTime : Option (BitVec 32)
  delta : Option Nat
  pulses : Nat
  expired : Bool
  silentTimer : Nat
  silent : Bool
deriving DecidableEq, Repr

def WheelHistory.reset : WheelHistory where
  lastTime := none
  delta := none
  pulses := 0
  expired := false
  silentTimer := 0
  silent := false

/-- The axle sample as published (R72). -/
structure AxleSample where
  speed0 : Nat
  speed1 : Nat
  silent0 : Bool
  silent1 : Bool
  axle : Nat
  filtered : Nat
deriving DecidableEq, Repr

def AxleSample.reset : AxleSample where
  speed0 := 0
  speed1 := 0
  silent0 := false
  silent1 := false
  axle := 0
  filtered := 0

structure WheelUnit where
  usCount : BitVec 32
  wheel0 : WheelHistory
  wheel1 : WheelHistory
  windowA : List Nat
  windowB : List Nat
  sample : AxleSample
deriving DecidableEq, Repr

/-- The WSU after every reset (R73). -/
def WheelUnit.reset : WheelUnit where
  usCount := 0
  wheel0 := .reset
  wheel1 := .reset
  windowA := []
  windowB := []
  sample := .reset

/-! ## Peer Table (R40, R41, R48, R55) -/

/-- What the PT holds of a peer it has heard since START (R41). -/
structure PeerRecord where
  frame : ShareFrame
  digest : Option Word
  lastSeq : Byte
  missed : Nat
  age : Nat
deriving DecidableEq, Repr

/-- One entry of the table: NEVER when it holds no record. -/
structure PeerEntry where
  station : Station
  record : Option PeerRecord
  prevClass : AgeClass
deriving DecidableEq, Repr

/-- One entry as the view copies it, with the class it was given at the latch (R48). -/
structure ViewEntry where
  station : Station
  cls : AgeClass
  record : Option PeerRecord
deriving DecidableEq, Repr

/-- The period view (R48). -/
structure PeriodView where
  period : BitVec 16
  entries : List ViewEntry
  demand : Int
  mode : Mode
  driveLimit : Nat
  regenLimit : Nat
  immediate : Bool
  demandAge : Nat
  participants : List Station
  reserved : List Station
  isolated : Bool
  disagreement : Bool
  mismatch : Bool
deriving DecidableEq, Repr

/-- The view after a reset: no peers, local inputs at their values after reset (R61, R169). DESIGN CHOICE: its period
count, to which no rule gives a value before the first latch, is 0 (log 35). -/
def PeriodView.reset (driveLimit regenLimit : Nat) : PeriodView where
  period := 0
  entries := []
  demand := 0
  mode := .road
  driveLimit := driveLimit
  regenLimit := regenLimit
  immediate := false
  demandAge := 255
  participants := []
  reserved := []
  isolated := false
  disagreement := false
  mismatch := false

structure PeerTable where
  entries : List PeerEntry
  disCounter : Nat
  disEstablished : Bool
  view : PeriodView
deriving DecidableEq, Repr

/-- The PT after every reset (R61). -/
def PeerTable.reset (driveLimit regenLimit : Nat) : PeerTable where
  entries := []
  disCounter := 0
  disEstablished := false
  view := .reset driveLimit regenLimit

/-! ## Slip Unit (R74, R86) -/

/-- The traction-limit state (R81 to R84). -/
inductive TlState where
  | none | cut | recover
deriving DecidableEq, Repr

structure SlipUnit where
  reference : Nat
  ratio : Int
  flag : Bool
  tlState : TlState
  tl : Nat
  hold : Nat
  /-- the demand sign published, and the previous demand sign of the next evaluation (R75) -/
  sign : Sign
  cutMark : Bool
deriving DecidableEq, Repr

/-- The SLU after every reset (R74). DESIGN CHOICE: the cut mark, which R74's table does not list, is clear until the
first publication (log 36). -/
def SlipUnit.reset : SlipUnit where
  reference := 0
  ratio := 0
  flag := false
  tlState := .none
  tl := 0
  hold := 0
  sign := .zero
  cutMark := false

/-! ## Handover Unit (R127, R128) -/

/-- What a peer entered in a handover record has done (R128). -/
inductive HoPeer where
  | awaiting | absorbed | excused
deriving DecidableEq, Repr

/-- An open handover record (R128). -/
structure HoRecord where
  tag : Tag
  sign : Sign
  /-- from: the magnitude of the applied torque at opening -/
  origin : Nat
  target : Nat
  lHo : Nat
  timer : Nat
  peers : List (Station × HoPeer)
deriving DecidableEq, Repr

/-- The handover state reported to the host (R127). -/
inductive HoReport where
  | none | opened | completed | cancelled | expired
deriving DecidableEq, Repr

/-- The stage of an entry of the echo-due list (R127). -/
inductive EchoStage where
  | seen | due
deriving DecidableEq, Repr

structure EchoDue where
  originator : Station
  tag : Tag
  stage : EchoStage
deriving DecidableEq, Repr

structure HandoverUnit where
  record : Option HoRecord
  tagCounter : Tag
  /-- the drive and regen limits of the view at the last per-period step -/
  prevLimits : Option (Nat × Nat)
  report : HoReport
  lastTags : Vector Tag 4
  echoDue : List EchoDue
  /-- what the last per-period step published: L_ho or none (R129) -/
  published : Option Nat
deriving DecidableEq, Repr

/-- The last tags seen after a reset and after START: 0 for each station (R127). -/
def noTagsSeen : Vector Tag 4 := #v[0, 0, 0, 0]

/-- The HOU after every reset (R127). -/
def HandoverUnit.reset : HandoverUnit where
  record := none
  tagCounter := 0
  prevLimits := none
  report := .none
  lastTags := noTagsSeen
  echoDue := []
  published := none

/-! ## Allocation Engine (R92, R103) -/

/-- The selection record (R92). -/
structure Selection where
  basis : Basis
  pattern : Nat
  band : Nat
  code : Nat
  trim : Nat
deriving DecidableEq, Repr

def Selection.reset : Selection where
  basis := .normal
  pattern := 0
  band := 0
  code := 0
  trim := 0

structure AllocationEngine where
  selection : Selection
  demand : Int
  sign : Sign
  aSelf : Int
  aFree : Option Int
  shortfall : Nat
  participants : List Station
  reserved : List Station
  /-- the period count of the view the computation worked from (R106) -/
  period : BitVec 16
deriving DecidableEq, Repr

/-- The ALE after every reset (R92, R103). -/
def AllocationEngine.reset : AllocationEngine where
  selection := .reset
  demand := 0
  sign := .zero
  aSelf := 0
  aFree := none
  shortfall := 0
  participants := []
  reserved := []
  period := 0

/-! ## Command Shaper (R151) -/

/-- How the last command was reached (R151). -/
inductive ShapeOutcome where
  | atTarget | riseLimited | fallLimited | zeroStop | tlClamped
deriving DecidableEq, Repr

structure Shaper where
  command : Int
  applied : Int
  target : Int
  outcome : ShapeOutcome
  peakMark : Bool
  cutMark : Bool
deriving DecidableEq, Repr

/-- The CSH after every reset (R151). -/
def Shaper.reset : Shaper where
  command := 0
  applied := 0
  target := 0
  outcome := .atTarget
  peakMark := false
  cutMark := false

/-! ## Share Bus Interface (R20 to R24, R39) -/

/-- What the SBI knows of the share bus (R18, R19, R21; log 14). -/
inductive BusPhase where
  /-- the bus has not yet been idle for 8 bit times -/
  | watching
  /-- a gap has been seen and the bus is still idle -/
  | idle
  /-- another station's frame is being collected -/
  | collecting
  /-- the own frame in flight is being driven -/
  | driving
deriving DecidableEq, Repr

structure ShareBus where
  slot : Option ShareFrame
  inFlight : Option ShareFrame
  /-- the own frame just completed, which its receiver has still to recognise (R22, R30) -/
  completing : Option ShareFrame
  seq : Byte
  interval : Interval
  service : Nat
  quiet : Nat
  wake : Bool
  latch : HealthClasses
  idleWatch : Nat
  /-- a gap has been seen since the last period timer expiry (R24) -/
  gapSeen : Bool
  phase : BusPhase
deriving DecidableEq, Repr

/-- The SBI after every reset (R39). -/
def ShareBus.reset : ShareBus where
  slot := none
  inFlight := none
  completing := none
  seq := 0
  interval := .one
  service := 0
  quiet := 0
  wake := false
  latch := .empty
  idleWatch := 0
  gapSeen := false
  phase := .watching

/-! ## Inverter Command Line (R165 to R168) -/

structure InverterLine where
  seq : Byte
  /-- the bytes of the frame that the publication of this period has started, or none while the line idles: before the
  publication, and since a reset (R165, R168; log 25) -/
  line : Option (List Byte)
deriving DecidableEq, Repr

/-- The ICL after every reset (R167, R168). -/
def InverterLine.reset : InverterLine where
  seq := 0
  line := none

/-! ## Local Port (R169) -/

structure LocalPort where
  demand : Int
  mode : Mode
  driveLimit : Nat
  regenLimit : Nat
  immediate : Bool
  demandAge : Nat
  first : Nat
  last : Nat
  cursor : Nat
  snapshot : Vector Word 16
  reply : List Word
  /-- the words sent on SDO during the last transaction (R171) -/
  sdo : List Word
  /-- how many parameter words of the WRITE_WORDS transaction in progress have been acted on (R174) -/
  wordsTaken : Nat
  /-- a word of that transaction went past the end of the window -/
  overrun : Bool
deriving DecidableEq, Repr

/-- The snapshot copy after every reset: L_ho FFFFh and 0 in every other word (R183). -/
def emptySnapshot : Vector Word 16 :=
  #v[0, 0, 0, 0, 0, 0, 0, 0, 0, 0, 0, 0, 0, 0xFFFF, 0, 0]

/-- The LP after every reset; the limits are the wheel peaks as the store then holds them (R169). -/
def LocalPort.reset (driveLimit regenLimit : Nat) : LocalPort where
  demand := 0
  mode := .road
  driveLimit := driveLimit
  regenLimit := regenLimit
  immediate := false
  demandAge := 255
  first := 0
  last := 148
  cursor := 0
  snapshot := emptySnapshot
  reply := []
  sdo := []
  wordsTaken := 0
  overrun := false

/-! ## Parameter Store (R187 to R189) -/

structure ParamStore where
  /-- words 4..148; words 0..3 are not held twice (R187) -/
  words : Vector Word configWords
  locked : Bool
  digest : Option Word
deriving DecidableEq, Repr

/-- The store after a power-on reset or an RSTn release (R188, R100). -/
def ParamStore.defaults : ParamStore where
  words := defaultWords
  locked := false
  digest := none

/-! ## Health Unit (R191) -/

structure HealthUnit where
  /-- the sixteen sticky flags in the bit order of the READ_DIAG reply (R201) -/
  flags : BitVec 16
  frameReject : Nat
  txOverwrite : Nat
  txErrors : Nat
  missed : Nat
  storeOverrun : Nat
  pmk : Bool
  /-- the time left of the pulse in progress, in µs -/
  pmkLeft : Nat
deriving DecidableEq, Repr

/-- The HU after every reset (R191). -/
def HealthUnit.reset : HealthUnit where
  flags := 0
  frameReject := 0
  txOverwrite := 0
  txErrors := 0
  missed := 0
  storeOverrun := 0
  pmk := false
  pmkLeft := 0

end Sys2Proof.Machine
end

