-- ==== Sys2Proof/Machine/State.lean ====
section
/-! DEFINITION. The state of the station: all that the manual gives it, as plain data, and the queue of
commands that wait. -/

namespace Sys2Proof.Machine

/-- The station. -/
structure State where
  /-- supply and CLK16 are valid (R3) -/
  supplyValid : Bool
  /-- RSTn is high (R4) -/
  rstnHigh : Bool
  /-- the period count k (R3) -/
  periodCount : BitVec 16
  stage : Stage
  ctl : Control
  wsu : WheelUnit
  pt : PeerTable
  slu : SlipUnit
  hou : HandoverUnit
  ale : AllocationEngine
  csh : Shaper
  sbi : ShareBus
  icl : InverterLine
  lp : LocalPort
  ps : ParamStore
  hu : HealthUnit
  /-- the commands that wait, first in, first out: the model's own field -/
  pending : List Instr
deriving DecidableEq, Repr

/-- Why a step stops with a fault. The manual describes no condition that stops the station (a bad
command or frame raises a flag and is counted), so no fault exists. -/
inductive Fault
deriving DecidableEq, Repr

/-- Why a step gives no meaning. -/
inductive Refusal where
  /-- A command whose meaning has not been written. Raised by no arm of `exec`. Safe: the run stops. -/
  | notModelled (mnemonic : String)
deriving DecidableEq, Repr

/-- The station right after a power-on reset with both straps low (the strap level is the model's choice,
log 8): every block at its value after reset, the store at its defaults, so the limits are the default
wheel peaks 7000 and 3000 (R169). -/
def State.reset : State where
  supplyValid := true
  rstnHigh := true
  periodCount := 0
  stage := .none
  ctl := .reset 0
  wsu := .reset
  pt := .reset 7000 3000
  slu := .reset
  hou := .reset
  ale := .reset
  csh := .reset
  sbi := .reset
  icl := .reset
  lp := .reset 7000 3000
  ps := .defaults
  hu := .reset
  pending := []

end Sys2Proof.Machine
end

