-- ==== Sys2Proof/Machine/Flags.lean ====
section
/-! DEFINITION. The Health Unit's records and the health latch: raising a sticky flag, growing a counter, putting a class
into the latch, requesting a PMK pulse. -/

namespace Sys2Proof.Machine

/-- The sixteen sticky flags (R191). -/
inductive Flag where
  | frameReject | unexpected | dupStation | txOverwrite | txError | busBlocked | peerLost | digestMismatch
  | demandSplit | demandStale | handoverExpired | shortfall | wheelSilent | demandClamped | limitClamped | portFault
deriving DecidableEq, Repr

/-- The bit of a flag in the first READ_DIAG word: bit 15 to bit 0 in the order of R201. -/
def Flag.bit : Flag → Nat
  | .frameReject => 15
  | .unexpected => 14
  | .dupStation => 13
  | .txOverwrite => 12
  | .txError => 11
  | .busBlocked => 10
  | .peerLost => 9
  | .digestMismatch => 8
  | .demandSplit => 7
  | .demandStale => 6
  | .handoverExpired => 5
  | .shortfall => 4
  | .wheelSilent => 3
  | .demandClamped => 2
  | .limitClamped => 1
  | .portFault => 0

/-- Whether a sticky flag is raised. -/
def HealthUnit.raised (hu : HealthUnit) (f : Flag) : Bool := hu.flags.getLsbD f.bit

/-- A detection handed to the HU raises the flag of its kind (R192). -/
def HealthUnit.raise (hu : HealthUnit) (f : Flag) : HealthUnit :=
  { hu with flags := hu.flags ||| BitVec.twoPow 16 f.bit }

/-- A number grown by n up to a cap. -/
def growTo (cap v n : Nat) : Nat := min cap (v + n)

/-- The value at which the five counters stand still (R195). -/
abbrev counterCap : Nat := 65535

def State.raise (s : State) (f : Flag) : State := { s with hu := s.hu.raise f }

/-- An error-class event goes into the health latch (R29). -/
def State.latchError (s : State) : State :=
  { s with sbi := { s.sbi with latch := { s.sbi.latch with error := true } } }

/-- A warning-class event goes into the health latch (R29). -/
def State.latchWarning (s : State) : State :=
  { s with sbi := { s.sbi with latch := { s.sbi.latch with warning := true } } }

/-- A detection of the error class: flag and latch (R29). -/
def State.raiseError (s : State) (f : Flag) : State := (s.raise f).latchError

/-- A detection of the warning class: flag and latch (R29). -/
def State.raiseWarning (s : State) (f : Flag) : State := (s.raise f).latchWarning

/-- A detection of the warning class that is made only where a condition holds. -/
def State.warnIf (s : State) (c : Bool) (f : Flag) : State := if c then s.raiseWarning f else s

/-- A rejected frame: flag, counter, warning (R31, R195). -/
def State.reportReject (s : State) : State :=
  let s := s.raiseWarning .frameReject
  { s with hu := { s.hu with frameReject := growTo counterCap s.hu.frameReject 1 } }

/-- A frame discarded for a newer one: flag and counter (R20, R195). -/
def State.reportOverwrite (s : State) : State :=
  let s := s.raise .txOverwrite
  { s with hu := { s.hu with txOverwrite := growTo counterCap s.hu.txOverwrite 1 } }

/-- A frame in flight abandoned: flag, counter, error (R23, R195). -/
def State.reportTxError (s : State) : State :=
  let s := s.raiseError .txError
  { s with hu := { s.hu with txErrors := growTo counterCap s.hu.txErrors 1 } }

/-- The gap of an accepted frame is added to the MISSED counter (R34, R195). -/
def State.countMissed (s : State) (gap : Nat) : State :=
  { s with hu := { s.hu with missed := growTo counterCap s.hu.missed gap } }

/-- A word past the end of the window is counted (R174, R195). -/
def State.countOverrun (s : State) : State :=
  { s with hu := { s.hu with storeOverrun := growTo counterCap s.hu.storeOverrun 1 } }

/-- A refused command (R172, R194). -/
def State.portFault (s : State) : State := s.raise .portFault

/-- READ_DIAG clears every flag and every counter; PMK goes on (R186, R193). -/
def HealthUnit.clear (hu : HealthUnit) : HealthUnit :=
  { HealthUnit.reset with pmk := hu.pmk, pmkLeft := hu.pmkLeft }

/-- A pulse request drives PMK high for 2 µs from the request (R198). -/
def State.requestPulse (s : State) : State := { s with hu := { s.hu with pmk := true, pmkLeft := 2 } }

end Sys2Proof.Machine
end

