-- ==== Sys2Proof/Machine/Formats.lean ====
section
/-! DEFINITION. The layouts seen outside the part (11_formats.md): the codes, the check code, the share
frame and its decoding, the inverter frame, the words of the replies. Layouts are written as sums of
fields by their place value, high byte first. -/

namespace Sys2Proof.Machine

/-! ## Codes -/

def LifeState.code : LifeState → Nat
  | .config => 0
  | .listen => 1
  | .run => 2
  | .stopping => 3
  | .stopped => 4

def Basis.code : Basis → Nat
  | .normal => 0
  | .fallback => 1
  | .isolated => 2

def Interval.code : Interval → Nat
  | .one => 0
  | .sixteen => 1

def Mode.code : Mode → Nat
  | .road => 0
  | .tow => 1
  | .terrain => 2
  | .crawl => 3

def StopCause.code : StopCause → Nat
  | .none => 0
  | .host => 1
  | .duplicate => 2

def HoReport.code : HoReport → Nat
  | .none => 0
  | .opened => 1
  | .completed => 2
  | .cancelled => 3
  | .expired => 4

def ShapeOutcome.code : ShapeOutcome → Nat
  | .atTarget => 0
  | .riseLimited => 1
  | .fallLimited => 2
  | .zeroStop => 3
  | .tlClamped => 4

/-- The peer class of READ_PEER; 0 stands for "no entry". -/
def AgeClass.code : AgeClass → Nat
  | .fresh => 1
  | .grace => 2
  | .lost => 3
  | .never => 4

/-- Health 0 ready, 1 error, 2 warning, 3 both (R29). -/
def HealthClasses.code (h : HealthClasses) : Nat := h.error.toNat + 2 * h.warning.toNat

/-- A station set as a mask: station n contributes 2 to the power n. -/
def maskOf (l : List Station) : Nat := (l.map (fun n => 2 ^ n.val)).sum

/-- The mode a code names; none above 3 (R178). -/
def modeOfCode : Nat → Option Mode
  | 0 => some .road
  | 1 => some .tow
  | 2 => some .terrain
  | 3 => some .crawl
  | _ => none

/-- The state a share frame may carry (R31 test 2). -/
def frameStateOfCode : Nat → Option LifeState
  | 1 => some .listen
  | 2 => some .run
  | 3 => some .stopping
  | 4 => some .stopped
  | _ => none

def basisOfCode : Nat → Option Basis
  | 0 => some .normal
  | 1 => some .fallback
  | 2 => some .isolated
  | _ => none

/-! ## Numbers as words -/

/-- A number as a 16-bit word. -/
def natWord (n : Nat) : Word := BitVec.ofNat 16 n

/-- A signed number as a 16-bit word in two's complement. -/
def intWord (i : Int) : Word := BitVec.ofInt 16 i

/-- The bytes of a word, high byte first. -/
def wordBytes (w : Word) : List Byte := [BitVec.ofNat 8 (w.toNat / 256), BitVec.ofNat 8 w.toNat]

/-- Byte i of a list, as a number; 0 past its end. -/
def byteAt (bs : List Byte) (i : Nat) : Nat := (bs.getD i 0).toNat

/-- The unsigned word at bytes i and i + 1. -/
def wordAt (bs : List Byte) (i : Nat) : Nat := byteAt bs i * 256 + byteAt bs (i + 1)

/-- The signed word at bytes i and i + 1. -/
def signedAt (bs : List Byte) (i : Nat) : Int := (natWord (wordAt bs i)).toInt

/-! ## The check code (R202) -/

/-- The register after a list of bits. -/
def crcBits (r : Word) : List Bool → Word
  | [] => r
  | b :: bs =>
    if r.getLsbD 15 != b then crcBits ((r <<< 1) ^^^ 0x1021#16) bs
    else crcBits (r <<< 1) bs

/-- The bits of a byte, from bit 7 down to bit 0. -/
def byteBits (x : Byte) : List Bool := [7, 6, 5, 4, 3, 2, 1, 0].map x.getLsbD

/-- The check code over a list of bytes (R202). -/
def checkCode (bytes : List Byte) : Word := crcBits 0xFFFF#16 (bytes.flatMap byteBits)

/-! ## The share frame (R199) -/

/-- An echo entry as its byte: bits 5..4 the originator, bits 3..0 the tag. -/
def EchoEntry.byte (e : EchoEntry) : Byte := BitVec.ofNat 8 (e.originator.val * 16 + e.tag.val)

/-- Bytes 0 to 15 of a share frame. -/
def ShareFrame.head (f : ShareFrame) : List Byte :=
  [BitVec.ofNat 8 f.sender.val,
   BitVec.ofNat 8 (f.digest.isSome.toNat * 128 + f.echoes.length),
   f.seq,
   BitVec.ofNat 8 (f.state.code * 32 + f.basis.code * 8 + f.interval.code * 4 + f.health.code),
   BitVec.ofNat 8 (f.mode.code * 64 + f.slipFlag.toNat * 32 + f.tag.val)]
  ++ wordBytes (intWord f.demand) ++ wordBytes (intWord f.applied)
  ++ wordBytes (natWord f.driveCapacity) ++ wordBytes (natWord f.regenCapacity)
  ++ wordBytes (natWord f.axleSpeed) ++ [BitVec.ofNat 8 f.riseStep]

/-- Every byte of a share frame that precedes its check code. -/
def ShareFrame.body (f : ShareFrame) : List Byte :=
  f.head ++ f.echoes.map EchoEntry.byte
    ++ (match f.digest with | some d => wordBytes d | none => [])

/-- The bytes of a share frame as sent (R199). -/
def ShareFrame.bytes (f : ShareFrame) : List Byte := f.body ++ wordBytes (checkCode f.body)

/-- The length a receiver expects, from byte 1 (R19): 18, one more for each echo entry, 2 more for the
extension. -/
def expectedLength (byte1 : Nat) : Nat := 18 + byte1 % 4 + 2 * (byte1 / 128)

/-- Test 1 of R31: the received length, and the check code over all but the last two bytes. -/
def frameIntact (bs : List Byte) : Bool :=
  bs.length == expectedLength (byteAt bs 1)
    && checkCode (bs.take (bs.length - 2)) == natWord (wordAt bs (bs.length - 2))

/-- The echo entries of a frame with the given echo count. -/
def echoesAt (bs : List Byte) (count : Nat) : List EchoEntry :=
  (List.range count).map fun k =>
    let b := byteAt bs (16 + k)
    ⟨Fin.ofNat 4 (b / 16), Fin.ofNat 16 b⟩

/-- The echo entries' part of test 2 of R31: tags 1..15, originators other than the sender and distinct. -/
def echoesLegal (sender : Station) (l : List EchoEntry) : Bool :=
  l.all (fun e => e.tag != 0 && e.originator != sender)
    && decide (l.Pairwise (fun a b => a.originator ≠ b.originator))

/-- The fields of a frame that passes test 1, where each holds a value of its defined set (test 2 of R31).
Bits marked 0 in the layout are ignored (R199). -/
def frameFields (bs : List Byte) : Option ShareFrame :=
  let b1 := byteAt bs 1
  let b3 := byteAt bs 3
  let b4 := byteAt bs 4
  let count := b1 % 4
  let sender : Station := Fin.ofNat 4 (byteAt bs 0)
  let echoes := echoesAt bs count
  match frameStateOfCode (b3 / 32), basisOfCode (b3 / 8 % 4), modeOfCode (b4 / 64) with
  | some state, some basis, some mode =>
    if wordAt bs 13 ≤ 4095 ∧ echoesLegal sender echoes then
      some {
        sender := sender
        seq := bs.getD 2 0
        state := state
        basis := basis
        interval := if b3 / 4 % 2 = 1 then .sixteen else .one
        health := ⟨decide (b3 % 2 = 1), decide (b3 / 2 % 2 = 1)⟩
        mode := mode
        slipFlag := decide (b4 / 32 % 2 = 1)
        tag := Fin.ofNat 16 b4
        demand := signedAt bs 5
        applied := signedAt bs 7
        driveCapacity := wordAt bs 9
        regenCapacity := wordAt bs 11
        axleSpeed := wordAt bs 13
        riseStep := byteAt bs 15
        echoes := echoes
        digest := if b1 / 128 = 1 then some (natWord (wordAt bs (16 + count))) else none }
    else none
  | _, _, _ => none

/-- Tests 1 and 2 of R31 together: the frame the bytes hold, or none where it is rejected. -/
def decodeFrame (bs : List Byte) : Option ShareFrame :=
  if frameIntact bs then frameFields bs else none

/-- The frames whose every field lies in the set the layout can carry. -/
def ShareFrame.legal (f : ShareFrame) : Bool :=
  f.state != .config
    && decide (-32768 ≤ f.demand ∧ f.demand ≤ 32767 ∧ -32768 ≤ f.applied ∧ f.applied ≤ 32767)
    && decide (f.driveCapacity ≤ 65535 ∧ f.regenCapacity ≤ 65535 ∧ f.axleSpeed ≤ 4095 ∧ f.riseStep ≤ 255)
    && decide (f.echoes.length ≤ 3) && echoesLegal f.sender f.echoes

/-! ## The inverter command frame (R200) -/

def inverterFrame (station : Station) (state : LifeState) (seq : Byte) (enable : Bool) (command : Int) : List Byte :=
  let body := [BitVec.ofNat 8 station.val, BitVec.ofNat 8 state.code, seq, BitVec.ofNat 8 enable.toNat]
    ++ wordBytes (intWord command)
  body ++ wordBytes (checkCode body)

/-! ## Line coding (R18, R165) -/

/-- A byte on the share bus, true for the recessive level: a dominant start bit, the data bits from bit 7 down to
bit 0, a recessive stop bit (R18, R199). -/
def shareByteLevels (x : Byte) : List Bool := false :: byteBits x ++ [true]

/-- A byte on ICLTX, true for the high level: a low start bit, the data bits from bit 0 up to bit 7, a high stop bit
(R165, R200). -/
def inverterByteLevels (x : Byte) : List Bool := false :: (byteBits x).reverse ++ [true]

/-- The levels of a share frame, one to a bit time, with no idle time between its bytes (R18). -/
def ShareFrame.levels (f : ShareFrame) : List Bool := f.bytes.flatMap shareByteLevels

/-- The level the station drives on SBTX, n bit times after the frame in flight has started: recessive while none is in
flight and after a frame's last stop bit (R4, R18). -/
def ShareBus.levelAt (b : ShareBus) (n : Nat) : Bool :=
  match b.inFlight with
  | none => true
  | some f => f.levels.getD n true

/-- The levels of ICLTX from the start of the frame on the line, one to a bit time; none while it is idle (R165). -/
def InverterLine.levels (l : InverterLine) : List Bool :=
  match l.line with
  | none => []
  | some bytes => bytes.flatMap inverterByteLevels

/-- The level of ICLTX n bit times after the last publication: the frame's levels, and the idle level high once they
have ended (R165, R168). -/
def InverterLine.levelAt (l : InverterLine) (n : Nat) : Bool := l.levels.getD n true

/-- A byte from its eight data bits, the first bit 7. -/
def byteOfBits (bits : List Bool) : Byte := BitVec.ofNat 8 (bitsNumber bits)

/-- The bytes a receiver collects from the levels that follow a stop bit, `idle` of them already recessive: a dominant
level within 8 bit times is the start bit of the next byte; after 8 idle bit times the frame has ended; a byte whose
stop bit is not recessive is the last (R18, R19). -/
def collectAfter (idle : Nat) : List Bool → List Byte
  | true :: rest => if idle < 7 then collectAfter (idle + 1) rest else []
  | false :: b7 :: b6 :: b5 :: b4 :: b3 :: b2 :: b1 :: b0 :: stop :: rest =>
    byteOfBits [b7, b6, b5, b4, b3, b2, b1, b0] :: (if stop then collectAfter 0 rest else [])
  | _ => []

/-- The bytes a receiver collects from the levels after a gap, one to a bit time: it begins at the first start bit,
however long the bus stays idle before it, and past the end of the list the bus stays recessive (R18, R19). -/
def collectBytes (levels : List Bool) : List Byte :=
  collectAfter 0 ((levels ++ List.replicate 9 true).dropWhile (fun level => level))

/-! ## Local port words (R201) -/

/-- The first word of the READ_STATUS reply. -/
def statusWord (state : LifeState) (basis : Basis) (cause : StopCause) (code : Nat) (quiet : Bool)
    (report : HoReport) : Word :=
  natWord (state.code * 8192 + basis.code * 2048 + cause.code * 512 + code * 64 + quiet.toNat * 32
    + report.code * 4)

/-- Snapshot word 2: state and basis. -/
def stateBasisWord (state : LifeState) (basis : Basis) : Word :=
  natWord (state.code * 8192 + basis.code * 2048)

/-- Snapshot word 13: slip pattern and weight-set code. -/
def patternCodeWord (pattern code : Nat) : Word := natWord (pattern * 256 + code)

/-- Snapshot word 16: the summary. -/
def summaryWord (participants reserved : List Station) (outcome : ShapeOutcome) (peak cut : Bool) : Word :=
  natWord (maskOf participants * 4096 + maskOf reserved * 256 + outcome.code * 32 + peak.toNat * 16 + cut.toNat * 8)

/-- The check code over words taken as bytes, each word high byte first. -/
def wordsCheckCode (words : List Word) : Word := checkCode (words.flatMap wordBytes)

/-- A word from two bytes, the first high. -/
def pairWord (hi lo : Byte) : Word := natWord (hi.toNat * 256 + lo.toNat)

/-- Bytes two to a word, the first high. -/
def pairWords : List Byte → List Word
  | a :: b :: rest => pairWord a b :: pairWords rest
  | [a] => [pairWord a 0]
  | [] => []

/-- Echo entry k of a frame in its byte form, 00h beyond the echo count. -/
def ShareFrame.echoByte (f : ShareFrame) (k : Nat) : Byte := (f.echoes.map EchoEntry.byte).getD k 0

/-- The READ_PEER reply for an entry that holds a record (R185, R201; log 24). -/
def peerReply (r : PeerRecord) (cls : AgeClass) : List Word :=
  [natWord (cls.code * 4096 + r.digest.isSome.toNat * 2048), natWord r.age, natWord r.missed,
   r.digest.getD 0]
  ++ pairWords r.frame.head
  ++ [pairWord (r.frame.echoByte 0) (r.frame.echoByte 1), pairWord (r.frame.echoByte 2) 0]

/-- The READ_PEER reply of a class and 0 in every other part: NEVER, or "no entry" (R185). -/
def emptyPeerReply (classCode : Nat) : List Word := natWord (classCode * 4096) :: List.replicate 13 0

end Sys2Proof.Machine
end

