-- ==== Sys2Proof/Machine/Operands.lean ====
section
/-! DEFINITION. What the meanings read: the store and its parameters, the stations of the vehicle, the
period view, signs, the local inputs. -/

namespace Sys2Proof.Machine

/-! ## Signs -/

/-- The sign of a number. -/
def Sign.ofInt (i : Int) : Sign := if i < 0 then .negative else if i = 0 then .zero else .positive

/-- A magnitude given a sign; the sign zero gives 0. -/
def Sign.apply (g : Sign) (n : Nat) : Int :=
  match g with
  | .negative => -(n : Int)
  | .zero => 0
  | .positive => (n : Int)

/-- The magnitude of a torque when it has the sign g, and 0 when it has not (R130). -/
def Sign.magnitudeOf (g : Sign) (t : Int) : Nat := if Sign.ofInt t = g then t.natAbs else 0

/-! ## The store (R187) -/

/-- The station takes part only while supply and clock are valid and RSTn is high (R3, R4). -/
def State.active (s : State) : Bool := s.supplyValid && s.rstnHigh

/-- The own station number (R2). -/
def State.own (s : State) : Station := s.ctl.strap

/-- Store word i, 0..148: the identity words are the part's constants and the strap number (R8, R187). -/
def State.word (s : State) (i : Nat) : Word :=
  if i = 0 then Config.partCode
  else if i = 1 then Config.revision
  else if i = 2 then natWord s.own.val
  else if i = 3 then Config.formatVersion
  else (s.ps.words[i - 4]?).getD 0

/-- A write of a configuration word, 4..148 (R174). -/
def ParamStore.write (ps : ParamStore) (i : Nat) (w : Word) : ParamStore :=
  { ps with words := ps.words.setIfInBounds (i - 4) w }

/-- A parameter as a block reads it: the word held to its range (R67, R74, R178, R180). Outside CONFIG the
store has been validated, and the hold changes nothing (log 10). -/
def State.param (s : State) (i : Nat) : Nat :=
  holdNat (paramRow i).lo (paramRow i).hi (s.word i).toNat

/-- S_hys, held to 0..S_on - 1 with S_on as already held to its range (R74). -/
def State.sHys (s : State) : Nat := holdNat 0 (s.param Idx.sOn - 1) (s.word Idx.sHys).toNat

/-- The trim of a wheel, a signed word held to -50..50 (R66, R67). -/
def State.wheelTrim (s : State) (w : Wheel) : Int :=
  match w with
  | .wheel0 => holdInt (-50) 50 (s.word Idx.trim0).toInt
  | .wheel1 => holdInt (-50) 50 (s.word Idx.trim1).toInt

/-- The pulse distance of a wheel (R64). -/
def State.wheelDistance (s : State) (w : Wheel) : Nat :=
  match w with
  | .wheel0 => s.param Idx.dist0
  | .wheel1 => s.param Idx.dist1

/-- The wheel peak of a sign; the drive peak for zero, which no rule asks for (R190). -/
def State.wheelPeak (s : State) (g : Sign) : Nat :=
  match g with
  | .negative => s.param Idx.regenPeak
  | .zero => s.param Idx.drivePeak
  | .positive => s.param Idx.drivePeak

/-! ## The stations of the vehicle -/

def allStations : List Station := [0, 1, 2, 3]

/-- The members of a mask: station n where bit n is set. -/
def stationsOf (mask : Word) : List Station := allStations.filter (fun n => mask.getLsbD n.val)

/-- The expected stations: the members of the mask word. -/
def State.expected (s : State) : List Station := stationsOf (s.word Idx.mask)

/-- The expected peers: the expected stations other than the own (R40). -/
def State.expectedPeers (s : State) : List Station := s.expected.filter (fun n => n != s.own)

/-! ## The tables of the store (R87, R88, R90) -/

/-- The weight of station n in set k (R87). -/
def State.weight (s : State) (k : Nat) (n : Station) : Nat := (s.word (Idx.weights + 4 * k + n.val)).toNat

/-- The profile entry of a mode and a speed band (R88). -/
def State.profileEntry (s : State) (m : Mode) (band : Nat) : Nat :=
  (s.word (Idx.profile + 16 * m.code + band)).toNat

/-- The override of pattern entry p: the high byte (R90, R187). -/
def State.patternOverride (s : State) (p : Nat) : Nat := (s.word (Idx.pattern + p)).toNat / 256

/-- The trim of pattern entry p: the low byte (R90, R187). -/
def State.patternTrim (s : State) (p : Nat) : Nat := (s.word (Idx.pattern + p)).toNat % 256

/-! ## Age class (R45) -/

/-- The class of an age at an announced interval, with the bounds S and G. -/
def ageClass (fresh grace : Nat) (interval : Interval) (age : Nat) : AgeClass :=
  if age ≤ fresh * interval.periods then .fresh
  else if age ≤ (fresh + grace) * interval.periods then .grace
  else .lost

/-- The class of an entry's record; NEVER where it holds none (R45). -/
def State.classOf (s : State) (r : Option PeerRecord) : AgeClass :=
  match r with
  | none => .never
  | some r => ageClass (s.param Idx.freshBound) (s.param Idx.graceBound) r.frame.interval r.age

/-- FRESH or GRACE: the classes of a participant (R51). -/
def AgeClass.participates : AgeClass → Bool
  | .fresh => true
  | .grace => true
  | .lost => false
  | .never => false

/-! ## The period view (R48, R51) -/

/-- The record of a participant peer of the view. -/
def ViewEntry.participant (e : ViewEntry) : Option (Station × PeerRecord) :=
  match e.cls.participates, e.record with
  | true, some r => some (e.station, r)
  | _, _ => none

/-- The participant peers of a view with their records, GRACE peers included (R51). -/
def PeriodView.peers (v : PeriodView) : List (Station × PeerRecord) := v.entries.filterMap ViewEntry.participant

/-- The record the view holds of station n, whatever its class. -/
def PeriodView.recordOf (v : PeriodView) (n : Station) : Option PeerRecord :=
  (v.entries.find? (fun e => e.station == n)).bind (fun e => e.record)

/-- The record the peer table now holds of station n. -/
def PeerTable.recordOf (pt : PeerTable) (n : Station) : Option PeerRecord :=
  (pt.entries.find? (fun e => e.station == n)).bind (fun e => e.record)

/-- The limit of the view for a sign: drive for positive, regen for negative, the greater for zero: the
unlimited capacity of R81. -/
def PeriodView.limit (v : PeriodView) (g : Sign) : Nat :=
  match g with
  | .negative => v.regenLimit
  | .zero => max v.driveLimit v.regenLimit
  | .positive => v.driveLimit

/-- The limit of a stored pair (drive, regen) for a sign. -/
def limitOf (limits : Nat × Nat) (g : Sign) : Nat :=
  match g with
  | .negative => limits.2
  | .zero => max limits.1 limits.2
  | .positive => limits.1

/-- The capacity a peer announces for a sign; none for zero. -/
def ShareFrame.capacity (f : ShareFrame) (g : Sign) : Nat :=
  match g with
  | .negative => f.regenCapacity
  | .zero => 0
  | .positive => f.driveCapacity

/-- The demand age in the view is past T_dem (R107). -/
def State.demandStale (s : State) : Bool := decide (s.param Idx.tDem < s.pt.view.demandAge)

/-- The own demand of the view, 0 when stale (R27, R54, R75, R107). -/
def State.ownDemand (s : State) : Int := if s.demandStale then 0 else s.pt.view.demand

/-- The least of a list of numbers that starts with a. -/
def leastFrom (a : Int) (l : List Int) : Int := l.foldl min a

/-- The greatest of a list of numbers that starts with a. -/
def greatestFrom (a : Int) (l : List Int) : Int := l.foldl max a

/-- The common demand of the own and the participant peers' demands: the smallest magnitude where all have
one sign, 0 otherwise (R108). -/
def commonDemand (own : Int) (others : List Int) : Int :=
  if 0 < own ∧ others.all (fun d => decide (0 < d)) then leastFrom own others
  else if own < 0 ∧ others.all (fun d => decide (d < 0)) then greatestFrom own others
  else 0

/-- The demand before the hold and the trim: the own one, or the common one while a disagreement is
established (R75, R107, R108). -/
def State.usedDemand (s : State) : Int :=
  if s.pt.view.disagreement then
    commonDemand s.ownDemand (s.pt.view.peers.map (fun p => p.2.frame.demand))
  else s.ownDemand

/-! ## Reported values -/

/-- The basis reported with the state: the ALE's in RUN, NORMAL otherwise (R17). -/
def State.reportedBasis (s : State) : Basis :=
  if s.ctl.state = .run then s.ale.selection.basis else .normal

/-- The announced capacities, drive and regen, in the present state (R28). -/
def State.capacities (s : State) : Nat × Nat :=
  let v := s.pt.view
  match s.ctl.state with
  | .config => (0, 0)
  | .listen => (0, 0)
  | .stopped => (0, 0)
  | .run =>
    (if s.slu.sign = .positive then min v.driveLimit s.slu.tl else v.driveLimit,
     if s.slu.sign = .negative then min v.regenLimit s.slu.tl else v.regenLimit)
  | .stopping =>
    (if 0 < s.csh.applied then min v.driveLimit s.csh.applied.natAbs else 0,
     if s.csh.applied < 0 then min v.regenLimit s.csh.applied.natAbs else 0)

end Sys2Proof.Machine
end

