-- ==== Sys2Proof/Machine/Ops.lean ====
section
/-! DEFINITION. The operations that several commands share: the resets, the local port transaction, the
clearing at START, the entry into a stop, sending and discarding share frames. -/

namespace Sys2Proof.Machine

/-- A meaning answers the state f gives while the station is active. While it is held in a reset it
ignores its port, its bus and its wheels, and its timer does not run, so nothing changes (R3, R4; log 5). -/
def whenActive (s : State) (f : State → State) : Host.Outcome State Fault Refusal :=
  .next (if s.active then f s else s)

/-- A stage of the computation acts on the publication it waits for, and does nothing where that publication
is not outstanding (log 3). -/
def onPublication (awaited : Stage) (s : State) (f : State → State) : Host.Outcome State Fault Refusal :=
  whenActive s fun s => if s.stage = awaited then f s else s

/-! ## Resets (R1, R3 to R5) -/

/-- What every reset does to the runtime state of every block; the store words and the strap number are
kept here, the store is unlocked and the digest cleared (R5, R39, R61, R73, R74, R92, R100, R103, R127,
R151, R167, R169, R191). -/
def State.clearRuntime (s : State) : State :=
  let drive := s.param Idx.drivePeak
  let regen := s.param Idx.regenPeak
  { s with
    periodCount := 0
    stage := .none
    ctl := .reset s.ctl.strap
    wsu := .reset
    pt := .reset drive regen
    slu := .reset
    hou := .reset
    ale := .reset
    csh := .reset
    sbi := .reset
    icl := .reset
    lp := .reset drive regen
    ps := { s.ps with locked := false, digest := none }
    hu := .reset }

/-- The station number the straps give: STN1 counts 2, STN0 counts 1 (R2). -/
def strapNumber (stn1 stn0 : Bool) : Station := Fin.ofNat 4 (2 * stn1.toNat + stn0.toNat)

/-- The end of a power-on reset, and of an RSTn reset: the store takes its defaults, the straps are sampled,
and the runtime state of every block is cleared (R3, R4, R188). -/
def State.endOfReset (s : State) (stn1 stn0 : Bool) : State :=
  { s with
    ps := .defaults
    ctl := { s.ctl with strap := strapNumber stn1 stn0 } }.clearRuntime

/-! ## The local port transaction (R170, R171) -/

/-- The words SDO carries during a transaction of n words: the reply, then 0 (R171). -/
def sdoWords (reply : List Word) (n : Nat) : List Word :=
  reply.take n ++ List.replicate (n - reply.length) 0

/-- The level the station drives on SDO while bit n of the transaction in progress is taken: the reply's words, bit 15
first, and 0 where the reply has ended (R170, R171). -/
def LocalPort.sdoAt (p : LocalPort) (n : Nat) : Bool := (p.reply.getD (n / 16) 0).getLsbD (15 - n % 16)

/-- The end of a transaction of n whole words: the reply of the previous one has been sent, the buffer is
emptied, and no WRITE_WORDS is in progress any more (R171; log 12). -/
def State.deliver (s : State) (n : Nat) : State :=
  { s with lp := { s.lp with sdo := sdoWords s.lp.reply n, reply := [], wordsTaken := 0, overrun := false } }

/-- A command of the local port: its transaction carried a command word and the given parameter words;
the reply is delivered, then the command acts (R171, R172). -/
def onPort (words : List Word) (s : State) (f : State → State) : Host.Outcome State Fault Refusal :=
  whenActive s fun s => f (s.deliver (1 + words.length))

/-- The reply a command forms (R171). -/
def State.setReply (s : State) (reply : List Word) : State := { s with lp := { s.lp with reply := reply } }

/-- A whole parameter word of a WRITE_WORDS in CONFIG, at the cursor: passed over at 0..3, written at
4..last, counted past the end (R174). -/
def State.writeAtCursor (s : State) (w : Word) : State :=
  if s.lp.last < s.lp.cursor then
    { s.countOverrun with lp := { s.lp with overrun := true } }
  else
    { s with
      ps := if s.lp.cursor ≤ 3 then s.ps else s.ps.write s.lp.cursor w
      lp := { s.lp with cursor := s.lp.cursor + 1 } }

/-! ## START (R10, R16, R60) -/

/-- The view after a START: every expected peer NEVER, the local inputs as the LP holds them, isolated set
(R60, R61). DESIGN CHOICE: its period count is the present one (log 23). -/
def State.clearedView (s : State) : PeriodView where
  period := s.periodCount
  entries := s.expectedPeers.map (fun n => ⟨n, .never, none⟩)
  demand := s.lp.demand
  mode := s.lp.mode
  driveLimit := s.lp.driveLimit
  regenLimit := s.lp.regenLimit
  immediate := s.lp.immediate
  demandAge := s.lp.demandAge
  participants := [s.own]
  reserved := s.expectedPeers
  isolated := true
  disagreement := false
  mismatch := false

/-- The peer table after a START: one NEVER entry per expected peer (R60). -/
def State.clearedTable (s : State) : PeerTable where
  entries := s.expectedPeers.map (fun n => ⟨n, none, .never⟩)
  disCounter := 0
  disEstablished := false
  view := s.clearedView

/-- What a START accepted in CONFIG and a START from STOPPED have in common: the table, the view and the
echo lists are cleared, the stop cause and the listen counter return, the interval is 1 (R10, R16, R39,
R60, R127). -/
def State.enterListen (s : State) : State :=
  { s with
    ctl := { s.ctl with
      state := .listen, stopCause := .none, refusalCode := 0, refusalIndex := 0, listenCounter := 0 }
    pt := s.clearedTable
    hou := { s.hou with lastTags := noTagsSeen, echoDue := [] }
    sbi := { s.sbi with interval := .one, service := 0, quiet := 0, wake := false } }

/-! ## Stops (R12, R15) -/

/-- An open record is discarded and closes Cancelled (R133). -/
def HandoverUnit.discard (h : HandoverUnit) : HandoverUnit :=
  match h.record with
  | none => h
  | some _ => { h with record := none, report := .cancelled }

/-- Every entry at stage Due returns to Seen (R148). -/
def HandoverUnit.dueToSeen (h : HandoverUnit) : HandoverUnit :=
  { h with echoDue := h.echoDue.map (fun e => { e with stage := .seen }) }

/-- A change of state made by a stop: the wake request is cleared, the quiet counter is 0 outside RUN, and
the stop is an error-class event of the health latch (R12, R29, R35, R38; log 30). -/
def State.stopInto (s : State) (state : LifeState) (cause : StopCause) : State :=
  { s with
    ctl := { s.ctl with state := state, stopCause := cause }
    sbi := { s.sbi with wake := false, quiet := 0, latch := { s.sbi.latch with error := true } } }

/-- RUN is left by a stop: the open record is discarded and the Due entries return to Seen (R133, R148). -/
def State.leaveRun (s : State) (cause : StopCause) : State :=
  { s with hou := s.hou.discard.dueToSeen }.stopInto .stopping cause

/-! ## The pending slot and the frame in flight (R20, R21) -/

/-- A frame discarded for a newer one gives its health field to it (R20). -/
def ShareFrame.withHealthOf (f discarded : ShareFrame) : ShareFrame :=
  { f with health := f.health.combine discarded.health }

/-- The frame in the slot starts: it becomes the frame in flight and drives the bus (R21). -/
def State.startPending (s : State) : State :=
  match s.sbi.slot with
  | none => s
  | some f => { s with sbi := { s.sbi with slot := none, inFlight := some f, phase := .driving } }

/-- A built frame goes into the pending slot, in place of the occupant if there is one, which is discarded
and reported (R20). -/
def State.putInSlot (s : State) (f : ShareFrame) : State :=
  match s.sbi.slot with
  | none => { s with sbi := { s.sbi with slot := some f } }
  | some old => { s.reportOverwrite with sbi := { s.sbi with slot := some (f.withHealthOf old) } }

/-- The bus has been idle for 8 bit times and no own frame is in flight (R21). -/
def ShareBus.free (b : ShareBus) : Bool := decide (b.phase = .idle) && b.inFlight.isNone

end Sys2Proof.Machine
end

