-- ==== Sys2Proof/Machine/Allocation.lean ====
section
/-! DEFINITION. The Allocation Engine: the choice of weight set and trim (05_split_profiles.md) and the
split (06_the_allocation.md). -/

namespace Sys2Proof.Machine

/-! ## The choice (R89 to R96) -/

/-- The speed band, from the greatest filtered axle speed among the participants (R89). -/
def State.speedBand (s : State) : Nat :=
  min 15 ((s.pt.view.peers.map (fun p => p.2.frame.axleSpeed)).foldl max s.wsu.sample.filtered / 128)

/-- The stations whose slip flag counts as set: the own by the Slip Unit's flag, a participant peer by the
flag of its record (R91). -/
def State.slippingStations (s : State) : List Station :=
  allStations.filter (fun n =>
    if n = s.own then s.slu.flag else s.pt.view.peers.any (fun p => p.1 == n && p.2.frame.slipFlag))

/-- The slip pattern, 0..15 (R91). -/
def State.slipPattern (s : State) : Nat := maskOf s.slippingStations

/-- The basis in RUN (R93). -/
def State.chooseBasis (s : State) : Basis :=
  if s.pt.view.mismatch then .fallback else if s.pt.view.isolated then .isolated else .normal

/-- The weight-set code that stands for the equal weights of FALLBACK (R92, R94). -/
abbrev equalWeights : Nat := 8

/-- The weight-set code on the NORMAL and ISOLATED bases: the pattern entry's override, or the profile entry
of the view's mode and the speed band (R95). -/
def State.chooseSet (s : State) : Nat :=
  let o := s.patternOverride s.slipPattern
  if o ≤ 7 then o else s.profileEntry s.pt.view.mode s.speedBand

/-- The selection record of a computation in RUN (R92 to R96); on FALLBACK the band keeps its value. -/
def State.choose (s : State) : Selection :=
  match s.chooseBasis with
  | .fallback => ⟨.fallback, s.slipPattern, s.ale.selection.band, equalWeights, 0⟩
  | .isolated => ⟨.isolated, s.slipPattern, s.speedBand, s.chooseSet, s.patternTrim s.slipPattern⟩
  | .normal => ⟨.normal, s.slipPattern, s.speedBand, s.chooseSet, s.patternTrim s.slipPattern⟩

/-- The weight a weight-set code gives a station (R87, R94). -/
def State.weightBy (s : State) (code : Nat) (n : Station) : Nat :=
  if code = equalWeights then 1 else s.weight code n

/-- W_exp: the weights of every expected station (R94, R113). -/
def State.expectedWeight (s : State) (code : Nat) : Nat := (s.expected.map (s.weightBy code)).sum

/-! ## The demand (R107 to R109) -/

/-- D0: the demand used, held within ±D_max (R107, R108). -/
def State.demandZero (s : State) : Int :=
  holdInt (-(s.param Idx.dMax : Int)) (s.param Idx.dMax) s.usedDemand

/-- D after the trim k, truncated toward zero (R109). -/
def trimDemand (d0 : Int) (k : Nat) : Int := Int.tdiv (d0 * (16 - k)) 16

/-! ## The water-fill (R115 to R117) -/

/-- A member of the active set: its weight and its capacity, both above 0 (R112). -/
structure Member where
  station : Station
  weight : Nat
  capacity : Nat
deriving DecidableEq, Repr

/-- What a water-fill gives: a share for each member, and the shortfall. -/
structure Split where
  shares : List (Station × Nat)
  shortfall : Nat
deriving DecidableEq, Repr

/-- The tentative amount of a member in a round that divides m by the weight sum w (R115). -/
def Member.tentative (i : Member) (m w : Nat) : Nat := m * i.weight / w

/-- The member is clamped in that round (R115). -/
def Member.clamps (i : Member) (m w : Nat) : Bool := decide (i.capacity ≤ i.tentative m w)

/-- The remainder given out 1 N·m at a time, from the first of the list on (R116). -/
def giveRemainder : Nat → List (Station × Nat) → List (Station × Nat)
  | _, [] => []
  | 0, l => l
  | r + 1, (n, a) :: l => (n, a + 1) :: giveRemainder r l

/-- The last round: tentative amounts and the remainder (R116). -/
def lastRound (members : List Member) (m w : Nat) : List (Station × Nat) :=
  let base := members.map (fun i => (i.station, i.tentative m w))
  giveRemainder (m - (base.map (fun p => p.2)).sum) base

/-- The rounds, at most as many as `rounds`; members in ascending station number (R115 to R118). -/
def fillRounds : Nat → List Member → Nat → Split
  | 0, _, m => ⟨[], m⟩
  | rounds + 1, members, m =>
    let w := (members.map (fun i => i.weight)).sum
    if members.isEmpty then ⟨[], m⟩
    else
      let clamped := members.filter (fun i => i.clamps m w)
      if clamped.isEmpty then ⟨lastRound members m w, 0⟩
      else
        let rest := members.filter (fun i => !i.clamps m w)
        let split := fillRounds rounds rest (m - (clamped.map (fun i => i.capacity)).sum)
        ⟨clamped.map (fun i => (i.station, i.capacity)) ++ split.shares, split.shortfall⟩

/-- The water-fill of m over an active set: each round before the last takes a member out (R118). -/
def waterFill (members : List Member) (m : Nat) : Split := fillRounds (members.length + 1) members m

/-- The share of a station; 0 where it is not in the active set (R112, R120). -/
def Split.shareOf (sp : Split) (n : Station) : Nat :=
  ((sp.shares.find? (fun p => p.1 == n)).map (fun p => p.2)).getD 0

/-! ## Capacities and reserves (R110 to R114) -/

/-- The capacity of a participant for a sign: the given one for the own station, the announced one of its
record for a peer (R110, R111). -/
def State.capacityOf (s : State) (g : Sign) (ownCapacity : Nat) (n : Station) : Nat :=
  if n = s.own then ownCapacity
  else ((s.pt.view.recordOf n).map (fun r => r.frame.capacity g)).getD 0

/-- The active set: the participants whose weight and capacity are both above 0 (R112). -/
def State.activeSet (s : State) (code : Nat) (g : Sign) (ownCapacity : Nat) : List Member :=
  (s.pt.view.participants.map (fun n => ⟨n, s.weightBy code n, s.capacityOf g ownCapacity n⟩)).filter
    (fun i => decide (0 < i.weight) && decide (0 < i.capacity))

/-- The reserve held for a reserved peer; 0 for one NEVER heard (R113). -/
def State.reserveOf (s : State) (code : Nat) (g : Sign) (d : Nat) (n : Station) : Nat :=
  min (d * s.weightBy code n / s.expectedWeight code)
    (((s.pt.view.recordOf n).map (fun r => r.frame.capacity g)).getD 0)

/-- The sum of the reserves (R114). -/
def State.reserves (s : State) (code : Nat) (g : Sign) (d : Nat) : Nat :=
  (s.pt.view.reserved.map (s.reserveOf code g d)).sum

/-- Stages 4 to 6 with a given own capacity: nothing is divided where the magnitude is 0 (R110 to R117). -/
def State.split (s : State) (code : Nat) (g : Sign) (d ownCapacity : Nat) : Split :=
  if d = 0 then ⟨[], 0⟩
  else waterFill (s.activeSet code g ownCapacity) (d - s.reserves code g d)

/-! ## The computation (R103 to R106, R120 to R122) -/

/-- The own capacity of the first run: min(L, TL) (R110). -/
def State.ownCapacity (s : State) (g : Sign) : Nat := min (s.pt.view.limit g) s.slu.tl

/-- a_free: the own share of the second run, with the hold level in place of the limit (R121). None where
the HOU published none, and where the demand has no sign (R112). -/
def State.freeShare (s : State) (code : Nat) (g : Sign) (d : Nat) : Option Int :=
  match s.hou.published, g with
  | none, _ => none
  | some _, .zero => none
  | some l, .negative => some (Sign.negative.apply ((s.split code .negative d (min l s.slu.tl)).shareOf s.own))
  | some l, .positive => some (Sign.positive.apply ((s.split code .positive d (min l s.slu.tl)).shareOf s.own))

/-- The results of a computation in RUN, stages 1 to 7 (R104, R107 to R122). -/
def State.computeShares (s : State) : AllocationEngine :=
  let d0 := s.demandZero
  let sel := s.choose
  let d := trimDemand d0 sel.trim
  let g := Sign.ofInt d0
  let first := s.split sel.code g d.natAbs (s.ownCapacity g)
  { selection := sel
    demand := d
    sign := g
    aSelf := g.apply (first.shareOf s.own)
    aFree := s.freeShare sel.code g d.natAbs
    shortfall := first.shortfall
    participants := s.pt.view.participants
    reserved := s.pt.view.reserved
    period := s.pt.view.period }

/-- The results outside RUN (R92, R105). -/
def State.restingShares (s : State) : AllocationEngine where
  selection := ⟨.normal, s.slipPattern, 0, 0, 0⟩
  demand := 0
  sign := .zero
  aSelf := 0
  aFree := none
  shortfall := 0
  participants := s.pt.view.participants
  reserved := s.pt.view.reserved
  period := s.pt.view.period

/-- An echo-due entry at stage Seen becomes Due when the originator's record in the view showed its tag
(R146). -/
def EchoDue.serve (e : EchoDue) (v : PeriodView) : EchoDue :=
  if (v.recordOf e.originator).any (fun r => decide (r.frame.tag = e.tag)) then { e with stage := .due } else e

/-- The HOU on the publication of a computation in RUN (R146). -/
def State.serveEchoes (s : State) : State :=
  { s with hou := { s.hou with echoDue := s.hou.echoDue.map (fun e => e.serve s.pt.view) } }

/-- ALLOCATION_COMPUTATION (R104, R105, R107, R117, R146). -/
def State.allocate (s : State) : State :=
  if s.ctl.state = .run then
    let a := s.computeShares
    let s := if s.demandStale then s.raise .demandStale else s
    let s := { s with ale := a, stage := .share }
    (s.warnIf (decide (0 < a.shortfall)) .shortfall).serveEchoes
  else { s with ale := s.restingShares, stage := .share }

def execAllocationComputation (s : State) : Host.Outcome State Fault Refusal :=
  onPublication .hold s State.allocate

end Sys2Proof.Machine
end

