-- ==== Sys2Proof/Machine/Shaping.lean ====
section
/-! DEFINITION. The Command Shaper and all that its publication starts: the exit tests of station control,
the interval and the share frame, the inverter frame, the snapshot, the PMK pulse
(08_command_shaping_and_the_inverter_command_line.md; R11, R13, R25 to R28, R35 to R38, R147, R183, R197). -/

namespace Sys2Proof.Machine

/-! ## Target, slew and clamp (R153 to R163) -/

/-- A wheel torque as a motor torque in q2: the nearest integer to T × 1024 / ratio, ties away from zero (R153). -/
def toMotor (ratio : Nat) (t : Int) : Int :=
  (Sign.ofInt t).apply ((2 * t.natAbs * 1024 + ratio) / (2 * ratio))

/-- A motor torque back as a wheel torque: the nearest integer to m × ratio / 1024, ties away from zero,
held within ±20000 (R163). -/
def toWheel (ratio : Nat) (m : Int) : Int :=
  holdInt (-20000) 20000 ((Sign.ofInt m).apply ((2 * m.natAbs * ratio + 1024) / 2048))

/-- The wheel torque the ALE's publication names: a_self, or min(L_ho, |a_free|) with the sign of D (R149, R160). -/
def State.targetTorque (s : State) : Int :=
  match s.ale.aFree with
  | none => s.ale.aSelf
  | some f => s.ale.sign.apply (min (s.hou.published.getD f.natAbs) f.natAbs)

/-- The converted target held within ±motor peak, with the peak mark (R154). -/
def holdPeak (peak : Nat) (u : Int) : Int × Bool :=
  if peak < u.natAbs then ((Sign.ofInt u).apply peak, true) else (u, false)

/-- The slew: the command m after one publication toward the target u (R155, R156). -/
def slew (rise fall : Nat) (m u : Int) : Int × ShapeOutcome :=
  if u = m then (m, .atTarget)
  else if m = 0 ∨ (Sign.ofInt m = Sign.ofInt u ∧ m.natAbs < u.natAbs) then
    ((Sign.ofInt u).apply (min u.natAbs (m.natAbs + rise)),
      if u.natAbs ≤ m.natAbs + rise then .atTarget else .riseLimited)
  else if Sign.ofInt m = Sign.ofInt u ∨ u = 0 then
    ((Sign.ofInt m).apply (max u.natAbs (m.natAbs - fall)),
      if m.natAbs ≤ u.natAbs + fall then .atTarget else .fallLimited)
  else if fall < m.natAbs then ((Sign.ofInt m).apply (m.natAbs - fall), .fallLimited)
  else (0, .zeroStop)

/-- The traction-limit bound on the magnitude of the command (R158). -/
def tlBound (ratio tl : Nat) : Nat := tl * 1024 / ratio

/-- The traction-limit clamp after the slew (R158; log 22). -/
def clampTo (bound : Nat) (r : Int × ShapeOutcome) : Int × ShapeOutcome :=
  if bound < r.1.natAbs then ((Sign.ofInt r.1).apply bound, .tlClamped) else r

/-- The shaper after moving toward a target, in RUN and STOPPING (R152, R155 to R164). -/
def State.shapeToward (s : State) (target : Int) (peakMark : Bool) : Shaper :=
  let ratio := s.param Idx.ratio
  let r := clampTo (tlBound ratio s.slu.tl)
    (slew (s.param Idx.riseStep) (s.param Idx.fallStep) s.csh.command target)
  { command := r.1
    applied := toWheel ratio r.1
    target := target
    outcome := r.2
    peakMark := peakMark
    cutMark := s.slu.cutMark }

/-- The shaper at rest, in CONFIG, LISTEN and STOPPED (R162). -/
def State.shapeAtRest (s : State) : Shaper := { Shaper.reset with cutMark := s.slu.cutMark }

/-- The shaper after a publication, by the state when it shapes (R152, R160 to R162). -/
def State.shaped (s : State) : Shaper :=
  match s.ctl.state with
  | .config => s.shapeAtRest
  | .listen => s.shapeAtRest
  | .stopped => s.shapeAtRest
  | .run =>
    let t := holdPeak (s.param Idx.motorPeak) (toMotor (s.param Idx.ratio) s.targetTorque)
    s.shapeToward t.1 t.2
  | .stopping => s.shapeToward 0 false

/-! ## Station control at the publication (R11, R13) -/

/-- Every expected peer is FRESH in the view with a digest in its record (R11). -/
def State.peersReady (s : State) : Bool :=
  s.pt.view.entries.all (fun e => decide (e.cls = .fresh) && e.record.any (fun r => r.digest.isSome))

/-- Station control at a command shaper publication: the exit tests of LISTEN and of STOPPING. A change of
state clears the wake request (R11, R13, R38). DESIGN CHOICE: the test of R11 is made at the first publication after a
START too, so the frame built there announces RUN where the peers are ready, although R39 says that the first frame
after the START announces LISTEN (log 34). -/
def State.exitTests (s : State) : State :=
  match s.ctl.state with
  | .listen =>
    let n := s.ctl.listenCounter + 1
    let s := { s with ctl := { s.ctl with listenCounter := n } }
    if s.peersReady ∨ s.param Idx.lListen ≤ n then
      { s with ctl := { s.ctl with state := .run }, sbi := { s.sbi with wake := false } }
    else s
  | .stopping =>
    if s.csh.command = 0 then
      { s with ctl := { s.ctl with state := .stopped }, sbi := { s.sbi with wake := false } }
    else s
  | .config => s
  | .run => s
  | .stopped => s

/-! ## The interval (R35 to R38) -/

/-- The own demand or the own filtered axle speed is not 0 (R37). -/
def State.ownActive (s : State) : Bool := decide (s.ownDemand ≠ 0) || decide (s.wsu.sample.filtered ≠ 0)

/-- Every FRESH peer of the view reports demand 0 and axle speed 0 (R35). -/
def State.peersQuiet (s : State) : Bool :=
  s.pt.view.entries.all fun e =>
    decide (e.cls ≠ .fresh) || e.record.all (fun r => decide (r.frame.demand = 0) && decide (r.frame.axleSpeed = 0))

/-- The quiet counter at a publication in RUN at which no wake is taken (R35). -/
def State.nextQuiet (s : State) : Nat :=
  if !s.ownActive && s.peersQuiet then growTo (s.param Idx.quietCount) s.sbi.quiet 1 else 0

/-- The interval, quiet counter and wake request at a publication in RUN (R35 to R37). -/
def State.quietStep (s : State) : ShareBus :=
  let b := s.sbi
  match b.interval with
  | .sixteen =>
    if s.ownActive || b.wake then { b with interval := .one, quiet := 0, wake := false }
    else { b with quiet := s.nextQuiet }
  | .one =>
    if b.wake then { b with quiet := 0, wake := false }
    else
      let n := s.nextQuiet
      { b with quiet := n, interval := if s.param Idx.quietCount ≤ n then .sixteen else .one }

/-- The SBI's interval at a publication, from the state before it and the state after it (R35 to R38). -/
def State.intervalStep (s : State) (before : LifeState) : ShareBus :=
  match s.ctl.state with
  | .run => if before = .run then s.quietStep else { s.sbi with interval := .one, quiet := 0 }
  | .stopped => { s.sbi with interval := .sixteen, quiet := 0 }
  | .config => { s.sbi with interval := .one, quiet := 0 }
  | .listen => { s.sbi with interval := .one, quiet := 0 }
  | .stopping => { s.sbi with interval := .one, quiet := 0 }

/-! ## The share frame (R25 to R28, R147) -/

/-- Whether a frame is built at a publication, and the service counter after it. `changed`: the interval
changes at this publication, or the station enters STOPPED (R25, R38; log 17, log 18). -/
def frameDue (state : LifeState) (duplicate changed : Bool) (interval : Interval) (service : Nat) : Bool × Nat :=
  if state = .config ∨ duplicate then (false, service)
  else if changed then (true, 0)
  else
    match interval with
    | .one => (true, service)
    | .sixteen => if service + 1 < 16 then (false, service + 1) else (true, 0)

/-- The echo entries of a frame built now: the Due entries whose originator's present record still carries
their tag, in ascending originator (R147). -/
def State.echoesToSend (s : State) : List EchoEntry :=
  allStations.filterMap fun n =>
    (s.hou.echoDue.find? (fun e => e.originator == n)).bind fun e =>
      if e.stage = .due ∧ (s.pt.recordOf n).any (fun r => decide (r.frame.tag = e.tag)) then some ⟨n, e.tag⟩
      else none

/-- The rise step field, in units of 4 N·m per period (R27). -/
def State.riseField (s : State) : Nat := min 255 (s.param Idx.riseStep * s.param Idx.ratio / 1024 / 4)

/-- The frame carries the service extension: in LISTEN, and at every sixteenth sequence (R26; log 27). -/
def State.extensionDue (s : State) : Bool :=
  decide (s.ctl.state = .listen) || decide (s.sbi.seq.toNat % 16 = 0)

/-- The share frame of this publication (R27, R28; log 29). -/
def State.builtFrame (s : State) : ShareFrame where
  sender := s.own
  seq := s.sbi.seq
  state := s.ctl.state
  basis := s.reportedBasis
  interval := s.sbi.interval
  health := s.sbi.latch
  mode := s.pt.view.mode
  slipFlag := s.slu.flag
  tag := (s.hou.record.map (fun r => r.tag)).getD 0
  demand := s.ownDemand
  applied := s.csh.applied
  driveCapacity := s.capacities.1
  regenCapacity := s.capacities.2
  axleSpeed := s.wsu.sample.filtered
  riseStep := s.riseField
  echoes := s.echoesToSend
  digest := if s.extensionDue then some (s.ps.digest.getD 0) else none

/-- The frame is built: it takes the sequence and empties the latch, goes into the slot, and starts at once
where the bus is free (R20, R21, R25, R29). -/
def State.buildFrame (s : State) : State :=
  let f := s.builtFrame
  let s := { s with sbi := { s.sbi with seq := s.sbi.seq + 1, latch := .empty } }.putInSlot f
  if s.sbi.free then s.startPending else s

/-- The SBI at a publication, from the state before it (R25, R35 to R38). -/
def State.shareBusStep (s : State) (before : LifeState) : State :=
  let b := s.intervalStep before
  let entersStopped := decide (s.ctl.state = .stopped) && decide (before ≠ .stopped)
  let changed := decide (b.interval ≠ s.sbi.interval) || entersStopped
  let due := frameDue s.ctl.state s.ctl.dupLatch changed b.interval b.service
  let s := { s with sbi := { b with service := due.2 } }
  if due.1 then s.buildFrame else s

/-! ## The inverter frame, the snapshot, PMK (R166, R167, R183, R197) -/

/-- The inverter is enabled in RUN and STOPPING (R166). -/
def LifeState.enable : LifeState → Bool
  | .config => false
  | .listen => false
  | .run => true
  | .stopping => true
  | .stopped => false

/-- The inverter frame of this publication (R166, R167; log 25). -/
def State.sendInverter (s : State) : State :=
  { s with icl := {
    seq := s.icl.seq + 1
    line := some (inverterFrame s.own s.ctl.state s.icl.seq s.ctl.state.enable s.csh.command) } }

/-- The sixteen snapshot words at this publication (R183, R201). DESIGN CHOICE: after a stop taken since the ALE's or
the HOU's publication of the period, the words 13 and 14 still show the weight-set code and the L_ho of those
publications (log 37, log 38), and after a START taken in CONFIG since the ALE's computation word 16 still shows the
empty sets of that computation beside the state LISTEN (log 39). -/
def State.snapshotWords (s : State) : Vector Word 16 :=
  #v[s.periodCount,
     stateBasisWord s.ctl.state s.reportedBasis,
     intWord s.ale.demand,
     intWord s.ale.aSelf,
     intWord s.csh.command,
     intWord s.csh.applied,
     natWord s.capacities.1,
     natWord s.capacities.2,
     natWord s.slu.tl,
     natWord s.wsu.sample.filtered,
     natWord (s.slu.reference / 16),
     intWord s.slu.ratio,
     patternCodeWord s.ale.selection.pattern s.ale.selection.code,
     (s.hou.published.map natWord).getD 0xFFFF,
     natWord s.ale.shortfall,
     summaryWord s.ale.participants s.ale.reserved s.csh.outcome s.csh.peakMark s.csh.cutMark]

/-- The snapshot copy is latched (R183). -/
def State.latchSnapshot (s : State) : State := { s with lp := { s.lp with snapshot := s.snapshotWords } }

/-- The marker mode requests a pulse at snapshot latches: SPLIT or SPLIT_AND_RX (R197). -/
def State.marksSplit (s : State) : Bool := decide (1 ≤ s.param Idx.markerMode)

/-- The marker mode requests a pulse at accepted frames: SPLIT_AND_RX (R197). -/
def State.marksRx (s : State) : Bool := decide (s.param Idx.markerMode = 2)

/-- COMMAND_SHAPING (R152, R164): every taker of the publication works on the state after it. -/
def State.shapeCommand (s : State) : State :=
  let before := s.ctl.state
  let s := { s with csh := s.shaped, stage := .none }
  let s := ((s.exitTests.shareBusStep before).sendInverter).latchSnapshot
  if s.marksSplit then s.requestPulse else s

def execCommandShaping (s : State) : Host.Outcome State Fault Refusal :=
  onPublication .share s State.shapeCommand

/-- PMK_PULSE_END (R198): PMK returns low (log 26). -/
def State.endPulse (s : State) : State := { s with hu := { s.hu with pmk := false, pmkLeft := 0 } }

def execPmkPulseEnd (s : State) : Host.Outcome State Fault Refusal :=
  whenActive s State.endPulse

end Sys2Proof.Machine
end

