-- ==== Sys2Proof/Machine/BusEvents.lean ====
section
/-! DEFINITION. The events of the share bus: gaps, contention, transmit faults, received frames
(02_the_share_bus.md, 2.1, 2.2 and 2.4; R42, R142, R145). -/

namespace Sys2Proof.Machine

/-- The SBI takes part in the bus only outside CONFIG (R30). -/
def State.onBus (s : State) (f : State → State) : State := if s.ctl.state = .config then s else f s

/-- INTERFRAME_GAP: a gap is seen, and the frame in the slot starts if none is in flight (R18, R21, R24). -/
def State.takeGap (s : State) : State :=
  let s := { s with sbi := { s.sbi with gapSeen := true } }
  match s.sbi.inFlight with
  | some _ => s
  | none => { s with sbi := { s.sbi with phase := .idle } }.startPending

def execInterframeGap (s : State) : Host.Outcome State Fault Refusal :=
  whenActive s (·.onBus State.takeGap)

/-- FIRST_START_BIT_AFTER_GAP: the collection of a frame begins, and the bus is busy (R19, R21). An own frame
in flight goes on being driven. -/
def State.takeStartBit (s : State) : State :=
  { s with sbi := { s.sbi with
    completing := none
    phase := if s.sbi.inFlight.isSome then s.sbi.phase else .collecting } }

def execFirstStartBitAfterGap (s : State) : Host.Outcome State Fault Refusal :=
  whenActive s (·.onBus State.takeStartBit)

/-- The bus after the own frame has left it: what is on it is still to fall idle. -/
def ShareBus.release (b : ShareBus) (phase : BusPhase) : ShareBus := { b with inFlight := none, phase := phase }

/-- CONTENTION_LOST: the frame goes back to an empty slot; a newer frame in the slot displaces it, with the
report and the combining of R20; after a duplicate stop it goes nowhere, since the station has stopped
sending and its slot stays empty (R15, R21, R24; log 15). -/
def State.loseContention (s : State) : State :=
  match s.sbi.inFlight with
  | none => s
  | some f =>
    let s := { s with sbi := s.sbi.release .collecting }
    if s.ctl.dupLatch then s
    else
      match s.sbi.slot with
      | none => { s with sbi := { s.sbi with slot := some f } }
      | some newer => { s.reportOverwrite with sbi := { s.sbi with slot := some (newer.withHealthOf f) } }

def execContentionLost (s : State) : Host.Outcome State Fault Refusal :=
  whenActive s State.loseContention

/-- TX_ERROR: the frame in flight is abandoned, and its health field goes back into the latch (R23). -/
def State.abandonFrame (s : State) : State :=
  match s.sbi.inFlight with
  | none => s
  | some f =>
    let s := s.reportTxError
    { s with sbi := { s.sbi.release .collecting with latch := s.sbi.latch.combine f.health } }

def execTxError (s : State) : Host.Outcome State Fault Refusal :=
  whenActive s State.abandonFrame

/-- FRAME_TX_COMPLETE: no frame is in flight; the own receiver has still to recognise it (R22, R30; log 33). -/
def State.completeFrame (s : State) : State :=
  match s.sbi.inFlight with
  | none => s
  | some f => { s with sbi := { s.sbi.release .watching with completing := some f } }

def execFrameTxComplete (s : State) : Host.Outcome State Fault Refusal :=
  whenActive s State.completeFrame

/-! ## Received frames -/

/-- The bytes are those of the own frame that is being or has just been completed (R30). DESIGN CHOICE: the end of a
collection and the gap come at the same idle bit time (R18, R19), and the model takes them in the order they are given.
Where the gap comes first and starts a frame, received bytes equal to that frame's count as its own, although they were
sent before it started (log 40). -/
def ShareBus.isOwnFrame (b : ShareBus) (bytes : List Byte) : Bool :=
  b.completing.any (fun f => f.bytes == bytes) || b.inFlight.any (fun f => f.bytes == bytes)

/-- The gap in sequence an accepted frame shows against the record held (R34). -/
def missedGap (held : Option PeerRecord) (f : ShareFrame) : Nat :=
  match held with
  | none => 0
  | some r => (f.seq - r.lastSeq - 1).toNat

/-- The record after an accepted frame: all frame fields at once, age 0, the digest kept where the frame has
no extension (R34, R42). -/
def PeerRecord.accept (held : Option PeerRecord) (f : ShareFrame) : PeerRecord where
  frame := f
  digest := f.digest.or (held.bind (fun r => r.digest))
  lastSeq := f.seq
  missed := growTo 255 ((held.map (fun r => r.missed)).getD 0) (missedGap held f)
  age := 0

/-- The peer table takes an accepted frame into its sender's entry (R42), and the MISSED counter grows (R34). -/
def State.recordFrame (s : State) (f : ShareFrame) : State :=
  let entries := s.pt.entries.map fun e =>
    if e.station = f.sender then { e with record := some (PeerRecord.accept e.record f) } else e
  { s with pt := { s.pt with entries := entries } }.countMissed (missedGap (s.pt.recordOf f.sender) f)

/-- An echo that names the own station with the record's present tag makes the sender's Awaiting entry
Absorbed (R142). -/
def HoRecord.absorb (r : HoRecord) (own : Station) (f : ShareFrame) : HoRecord :=
  if f.echoes.any (fun e => e.originator == own && e.tag == r.tag) then
    { r with peers := r.peers.map (fun p => if p.1 = f.sender ∧ p.2 = .awaiting then (p.1, .absorbed) else p) }
  else r

/-- The echo-due list after the tag of an accepted frame (R145, R148). -/
def HandoverUnit.seeTag (h : HandoverUnit) (f : ShareFrame) : HandoverUnit :=
  let others := h.echoDue.filter (fun e => e.originator != f.sender)
  let echoDue :=
    if f.tag = 0 then others
    else if f.tag = h.lastTags[f.sender] then h.echoDue
    else others ++ [⟨f.sender, f.tag, .seen⟩]
  { h with echoDue := echoDue, lastTags := h.lastTags.set f.sender f.tag }

/-- The HOU takes an accepted frame's echoes and its tag (R142, R145). -/
def State.handoverFrame (s : State) (f : ShareFrame) : State :=
  let h := { s.hou with record := s.hou.record.map (fun r : HoRecord => r.absorb s.own f) }
  { s with hou := h.seeTag f }

/-- An accepted frame that announces interval 1 with a demand or a speed wakes the station (R37; log 16). -/
def ShareFrame.wakes (f : ShareFrame) : Bool :=
  decide (f.interval = .one) && (decide (f.demand ≠ 0) || decide (f.axleSpeed ≠ 0))

/-- An accepted frame is handed on (R33). -/
def State.acceptFrame (s : State) (f : ShareFrame) : State :=
  let s := (s.recordFrame f).handoverFrame f
  let s := { s with sbi := { s.sbi with wake := s.sbi.wake || f.wakes } }
  if s.marksRx then s.requestPulse else s

/-- A duplicate station is reported (R15, R32): DUP_STATION each time; the first report sets the latch and
the stop cause, empties the slot without a report, and stops the station (log 28). -/
def State.reportDuplicate (s : State) : State :=
  let s := s.raiseError .dupStation
  if s.ctl.dupLatch then s
  else
    let s := { s with
      ctl := { s.ctl with dupLatch := true, stopCause := .duplicate }
      sbi := { s.sbi with slot := none } }
    match s.ctl.state with
    | .config => s
    | .listen => s.stopInto .stopping .duplicate
    | .run => s.leaveRun .duplicate
    | .stopping => s
    | .stopped => s

/-- A frame that is not the own one, judged by the tests of R31 in order. -/
def State.judgeFrame (s : State) (bytes : List Byte) : State :=
  match decodeFrame bytes with
  | none => s.reportReject
  | some f =>
    if f.sender ∉ s.expected then s.raise .unexpected
    else if f.sender = s.own then s.reportDuplicate
    else s.acceptFrame f

/-- FRAME_RECEIVED: the collection ends; the own frame is recognised and not processed, any other is judged
(R19, R30, R31). -/
def State.receiveFrame (s : State) (bytes : List Byte) : State :=
  let own := s.sbi.isOwnFrame bytes
  let phase := if s.sbi.phase = .collecting then .watching else s.sbi.phase
  let s := { s with sbi := { s.sbi with completing := none, phase := phase } }
  if own then s else s.judgeFrame bytes

def execFrameReceived (bytes : List Byte) (s : State) : Host.Outcome State Fault Refusal :=
  whenActive s (·.onBus (·.receiveFrame bytes))

end Sys2Proof.Machine
end

