-- ==== Sys2Proof/Machine/HandoverSteps.lean ====
section
/-! DEFINITION. The Handover Unit's per-period step as originator (07_torque_handover.md, 7.1 to 7.4). -/

namespace Sys2Proof.Machine

/-- The next tag of the tag counter: 15 is followed by 1 (R132). -/
def nextTag (counter : Tag) : Tag := if counter = 15 then 1 else counter + 1

/-- An open record closes with a kind (R141). -/
def HandoverUnit.close (h : HandoverUnit) (kind : HoReport) : HandoverUnit :=
  { h with record := none, report := kind }

/-- The participant peers of the view that announce RUN (R130, R131). -/
def State.runningPeers (s : State) : List Station :=
  (s.pt.view.peers.filter (fun p => decide (p.2.frame.state = .run))).map (fun p => p.1)

/-- The magnitude of the applied torque where it has the demand sign, else 0 (R130). -/
def State.appliedInSign (s : State) : Nat := s.slu.sign.magnitudeOf s.csh.applied

/-- min(limit of the sign, TL), the target of an opening or a retarget (R131, R136). -/
def State.hoTarget (s : State) (g : Sign) : Nat := min (s.pt.view.limit g) s.slu.tl

/-- The view's limit of the demand sign is lower than the previous limit of that sign (R130). -/
def State.limitFell (s : State) : Bool :=
  match s.hou.prevLimits with
  | none => false
  | some prev => decide (s.pt.view.limit s.slu.sign < limitOf prev s.slu.sign)

/-- The trigger: a record opens at a step that begins with none open (R130). -/
def State.handoverTrigger (s : State) : Bool :=
  decide (s.ctl.state = .run)
    && !s.pt.view.isolated
    && decide (s.slu.sign ≠ .zero)
    && s.limitFell
    && decide (s.hoTarget s.slu.sign + s.param Idx.hHo < s.appliedInSign)
    && !s.pt.view.immediate
    && !s.runningPeers.isEmpty

/-- The HOU with the record that opens (R131). -/
def State.openRecord (s : State) : HandoverUnit :=
  let tag := nextTag s.hou.tagCounter
  { s.hou with
    tagCounter := tag
    report := .opened
    record := some {
      tag := tag
      sign := s.slu.sign
      origin := s.appliedInSign
      target := s.hoTarget s.slu.sign
      lHo := s.appliedInSign
      timer := 0
      peers := s.runningPeers.map (fun n => (n, .awaiting)) } }

/-- A retargeted record: new target and tag, and every entry that is not Excused Awaiting again (R136). -/
def HoRecord.retarget (r : HoRecord) (target : Nat) (tag : Tag) : HoRecord :=
  { r with
    target := target
    tag := tag
    peers := r.peers.map (fun p => if p.2 = .excused then p else (p.1, .awaiting)) }

/-- The sum of the rise steps of the Absorbed peers, from their records in the view (R139). -/
def HoRecord.absorbedRise (r : HoRecord) (v : PeriodView) : Nat :=
  (r.peers.map (fun p =>
    if p.2 = .absorbed then ((v.recordOf p.1).map (fun q => q.frame.riseStep)).getD 0 else 0)).sum

/-- The hold level lowered at the rate of the Absorbed peers, down to the target (R139). -/
def HoRecord.descend (r : HoRecord) (v : PeriodView) : HoRecord :=
  { r with lHo := max r.target (r.lHo - 4 * r.absorbedRise v) }

/-- The record is at its target with no entry Awaiting (R140). -/
def HoRecord.complete (r : HoRecord) : Bool :=
  decide (r.lHo = r.target) && r.peers.all (fun p => decide (p.2 ≠ .awaiting))

/-- The timer, the descent and the completion of a record that the changes of 7.3 have left open
(R138 to R140). -/
def State.runRecord (s : State) (r : HoRecord) : State :=
  let r := { r with timer := r.timer + 1 }
  if s.param Idx.tHo ≤ r.timer then
    { s with hou := s.hou.close .expired }.raiseWarning .handoverExpired
  else
    let r := r.descend s.pt.view
    if r.complete then { s with hou := s.hou.close .completed }
    else { s with hou := { s.hou with record := some r } }

/-- The view's limit of a sign differs from the limit of that sign at the last step (R136). -/
def State.limitMoved (s : State) (g : Sign) : Bool :=
  match s.hou.prevLimits with
  | none => false
  | some prev => decide (s.pt.view.limit g ≠ limitOf prev g)

/-- The step with a record open: sign, immediate flag, restored limit, retarget, in this order, then the
timer, descent and completion (R133 to R140). -/
def State.stepRecord (s : State) (r : HoRecord) : State :=
  if s.slu.sign ≠ r.sign then { s with hou := s.hou.close .cancelled }
  else if s.pt.view.immediate then { s with hou := s.hou.close .cancelled }
  else if r.origin ≤ s.pt.view.limit r.sign then { s with hou := s.hou.close .cancelled }
  else if s.limitMoved r.sign then
    if r.lHo ≤ s.hoTarget r.sign then { s with hou := s.hou.close .cancelled }
    else
      let tag := nextTag s.hou.tagCounter
      { s with hou := { s.hou with tagCounter := tag } }.runRecord (r.retarget (s.hoTarget r.sign) tag)
  else s.runRecord r

/-- The record's part of the step (R129). -/
def State.moveRecord (s : State) : State :=
  match s.hou.record with
  | some r => s.stepRecord r
  | none => if s.handoverTrigger then { s with hou := s.openRecord } else s

/-- HANDOVER_STEP (R129): the step ends by storing the view's limits and publishing L_ho or none. -/
def State.stepHandover (s : State) : State :=
  let limits := (s.pt.view.driveLimit, s.pt.view.regenLimit)
  let s := s.moveRecord
  { s with
    hou := { s.hou with
      prevLimits := some limits
      published := s.hou.record.map (fun r => r.lHo) }
    stage := .hold }

def execHandoverStep (s : State) : Host.Outcome State Fault Refusal :=
  onPublication .slip s State.stepHandover

end Sys2Proof.Machine
end

