-- ==== Sys2Proof/Machine/Validation.lean ====
section
/-! DEFINITION. Validation of the store at START (R6, R7) and the digest (R99). -/

namespace Sys2Proof.Machine

/-- The trims are tested as signed values (R203). -/
def trimOutOfRange (w : Word) : Bool := decide (w.toInt < -50 ∨ 50 < w.toInt)

/-- Store word i lies outside its range (R7 check 3, R203). S_hys is judged against word 10 as stored. -/
def State.outOfRange (s : State) (i : Nat) : Bool :=
  let v := (s.word i).toNat
  if i = Idx.sHys then decide ((s.word Idx.sOn).toNat ≤ v)
  else if i = Idx.trim0 ∨ i = Idx.trim1 then trimOutOfRange (s.word i)
  else decide (v < (paramRow i).lo ∨ (paramRow i).hi < v)

/-- The indices of check 3 in ascending order: 5..21, 22..53 and 134..148 (R7). -/
def rangeIndices : List Nat := List.range' 5 49 ++ List.range' 134 15

/-- The indices of the profile table, 54..117, and of the pattern table, 118..133 (R7). -/
def profileIndices : List Nat := List.range' 54 64
def patternIndices : List Nat := List.range' 118 16

/-- A profile entry greater than 7 (check 4). -/
def State.badProfile (s : State) (i : Nat) : Bool := decide (7 < (s.word i).toNat)

/-- A pattern entry with an override greater than 8 or a trim greater than 12, or an entry 0 that is not
override none with trim 0 (check 5). -/
def State.badPattern (s : State) (i : Nat) : Bool :=
  let v := (s.word i).toNat
  decide (8 < v / 256 ∨ 12 < v % 256) || (i == Idx.pattern && v != 0x0800)

/-- The weight sets that a profile entry or a pattern override 0..7 names (check 6). -/
def State.namesSet (s : State) (k : Nat) : Bool :=
  profileIndices.any (fun i => (s.word i).toNat == k)
    || patternIndices.any (fun i => (s.word i).toNat / 256 == k)

/-- The sum of a set's weights over the expected stations (R87). -/
def State.weightSum (s : State) (k : Nat) : Nat := (s.expected.map (s.weight k)).sum

/-- A named weight set whose weights over the expected stations sum to 0 (check 6). -/
def State.emptySet (s : State) (k : Nat) : Bool := s.namesSet k && s.weightSum k == 0

/-- Validation: none where every check passes, else the refusal code and the first offending index of the
first check that fails (R7). -/
def State.validate (s : State) : Option (Nat × Nat) :=
  if 15 < (s.word Idx.mask).toNat then some (3, 4)
  else if s.own ∉ s.expected then some (1, 4)
  else if s.expected.length < 2 then some (2, 4)
  else match rangeIndices.find? s.outOfRange with
    | some i => some (3, i)
    | none => match profileIndices.find? s.badProfile with
      | some i => some (4, i)
      | none => match patternIndices.find? s.badPattern with
        | some i => some (5, i)
        | none => match (List.range 8).find? s.emptySet with
          | some k => some (6, 22 + 4 * k)
          | none => none

/-- The digest: the check code over words 4..133 in ascending order, each high byte first (R99). -/
def State.storeDigest (s : State) : Word := wordsCheckCode ((List.range' 4 130).map s.word)

end Sys2Proof.Machine
end

