-- ==== Sys2Proof/Machine/LifeCycle.lean ====
section
/-! DEFINITION. The supply and reset events, START, STOP and RESET_STATION (01_station_life_cycle.md). -/

namespace Sys2Proof.Machine

/-- POWER_ON_RESET (R3): supply and clock are valid and the reset ends. -/
def execPowerOnReset (stn1 stn0 : Bool) (s : State) : Host.Outcome State Fault Refusal :=
  .next ({ s with supplyValid := true }.endOfReset stn1 stn0)

/-- SUPPLY_OR_CLOCK_INVALID (R3): the power-on reset holds the station inactive. -/
def execSupplyOrClockInvalid (s : State) : Host.Outcome State Fault Refusal :=
  .next { s.clearRuntime with supplyValid := false }

/-- RSTN_ASSERT (R4, R13, R61, R133, R168, R191): the station is inactive; frames in progress and the
computation are cut, PMK is low, SDO is not driven. The store and the strap number stand until the release
(log 6). -/
def execRstnAssert (s : State) : Host.Outcome State Fault Refusal :=
  .next { s.clearRuntime with rstnHigh := false }

/-- RSTN_RELEASE (R4): as at the end of a power-on reset; while supply or clock is not valid the power-on
reset goes on holding the station (R3; log 7). -/
def execRstnRelease (stn1 stn0 : Bool) (s : State) : Host.Outcome State Fault Refusal :=
  .next (if s.supplyValid then { s with rstnHigh := true }.endOfReset stn1 stn0
         else { s with rstnHigh := true })

/-- RESET_STATION (R5): taken in every state at the end of its transaction; the store words and the strap
number are kept. What SDO carried during the transaction stands. -/
def execResetStation (_arg : Byte) (words : List Word) (s : State) : Host.Outcome State Fault Refusal :=
  onPort words s fun s =>
    let r := s.clearRuntime
    { r with lp := { r.lp with sdo := s.lp.sdo } }

/-- The START that validation accepts (R10): the store is locked and its digest computed, the limits are held
to the peaks (R181), the SBI begins to watch the bus (R30), and the station enters LISTEN. -/
def State.acceptStart (s : State) : State :=
  { s with
    ps := { s.ps with locked := true, digest := some s.storeDigest }
    lp := { s.lp with
      driveLimit := min s.lp.driveLimit (s.param Idx.drivePeak)
      regenLimit := min s.lp.regenLimit (s.param Idx.regenPeak) }
    sbi := { s.sbi with phase := .watching, gapSeen := false } }.enterListen

/-- The START that validation refuses (R9): the record is written and PORT_FAULT raised. -/
def State.refuseStart (s : State) (code index : Nat) : State :=
  { s with ctl := { s.ctl with refusalCode := code, refusalIndex := index } }.portFault

/-- START, by state (R6, R16). -/
def State.takeStart (s : State) : State :=
  match s.ctl.state with
  | .config =>
    match s.validate with
    | none => s.acceptStart
    | some (code, index) => s.refuseStart code index
  | .listen => s
  | .run => s
  | .stopping => s
  | .stopped => if s.ctl.dupLatch then s.portFault else s.enterListen

/-- START (R6, R16). -/
def execStart (_arg : Byte) (words : List Word) (s : State) : Host.Outcome State Fault Refusal :=
  onPort words s State.takeStart

/-- STOP, by state (R12). -/
def State.takeStop (s : State) : State :=
  match s.ctl.state with
  | .config => s.portFault
  | .listen => s.stopInto .stopped .host
  | .run => s.leaveRun .host
  | .stopping => s
  | .stopped => s

/-- STOP (R12). -/
def execStop (_arg : Byte) (words : List Word) (s : State) : Host.Outcome State Fault Refusal :=
  onPort words s State.takeStop

end Sys2Proof.Machine
end

