-- ==== Sys2Proof/Machine/PeerView.lean ====
section
/-! DEFINITION. The Peer Table's view latch (03_the_peer_table_and_the_period_view.md), with what the HOU does
at it (R144, R148). -/

namespace Sys2Proof.Machine

/-- The age of an entry's record grows by one at a latch (R44). -/
def PeerEntry.grow (e : PeerEntry) : PeerEntry :=
  { e with record := e.record.map (fun r => { r with age := growTo 4095 r.age 1 }) }

/-- The entries after the ages have grown. -/
def State.grownEntries (s : State) : List PeerEntry := s.pt.entries.map PeerEntry.grow

/-- An entry passes to LOST at this latch: it was FRESH or GRACE in the previous view (R47). -/
def State.passesToLost (s : State) (e : PeerEntry) : Bool :=
  e.prevClass.participates && decide (s.classOf e.record = .lost)

/-- The stations whose entries pass to LOST at this latch. -/
def State.lostNow (s : State) : List Station :=
  (s.grownEntries.filter s.passesToLost).map (fun e => e.station)

/-- The copy of an entry in the view, with its class (R45, R48). -/
def State.viewEntry (s : State) (e : PeerEntry) : ViewEntry := ⟨e.station, s.classOf e.record, e.record⟩

/-- The participants of a view outside CONFIG: the own station and the participant peers (R51). -/
def participantsOf (own : Station) (entries : List ViewEntry) : List Station :=
  allStations.filter (fun n => n == own || entries.any (fun e => e.station == n && e.cls.participates))

/-- The reserved peers of a view: the expected peers LOST or NEVER (R52). -/
def reservedOf (entries : List ViewEntry) : List Station :=
  allStations.filter (fun n => entries.any (fun e => e.station == n && !e.cls.participates))

/-- The view's local inputs and entries, with its derived sets (R48, R51 to R53); the two checks come after. -/
def State.copiedView (s : State) : PeriodView :=
  let outside := decide (s.ctl.state ≠ .config)
  let entries := if outside then s.grownEntries.map s.viewEntry else []
  { period := s.periodCount
    entries := entries
    demand := s.lp.demand
    mode := s.lp.mode
    driveLimit := s.lp.driveLimit
    regenLimit := s.lp.regenLimit
    immediate := s.lp.immediate
    demandAge := s.lp.demandAge
    participants := if outside then participantsOf s.own entries else []
    reserved := reservedOf entries
    isolated := !entries.isEmpty && entries.all (fun e => !e.cls.participates)
    disagreement := false
    mismatch := false }

/-- The ages grow, the classes are compared with the previous ones, and the entries and local inputs are
copied into the view (R44, R45, R47, R48, R49). In CONFIG the table has no entries (R50). -/
def State.copyView (s : State) : State :=
  let entries := s.grownEntries.map (fun e => { e with prevClass := s.classOf e.record })
  let lost := !s.lostNow.isEmpty
  { s with pt := { s.pt with entries := entries, view := s.copiedView } }.warnIf lost .peerLost

/-- A lost peer's entry in a record becomes Excused (R144). -/
def HoRecord.excuse (r : HoRecord) (lost : List Station) : HoRecord :=
  { r with peers := r.peers.map (fun p => if lost.contains p.1 then (p.1, .excused) else p) }

/-- No entry is Awaiting and none is Absorbed. -/
def HoRecord.allExcused (r : HoRecord) : Bool := r.peers.all (fun p => decide (p.2 = .excused))

/-- What a peer's passage to LOST does to the HOU: its echo-due entry is dropped (R148), its entry in an open
record is excused, and a record with no entry left Awaiting or Absorbed closes Expired (R144). -/
def State.loseInHandover (s : State) (lost : List Station) : State :=
  if lost.isEmpty then s
  else
    let echoDue := s.hou.echoDue.filter (fun e => !lost.contains e.originator)
    match s.hou.record with
    | none => { s with hou := { s.hou with echoDue := echoDue } }
    | some r =>
      let r := r.excuse lost
      if r.allExcused then
        { s with hou := { s.hou with echoDue := echoDue, record := none, report := .expired } }.raiseWarning
          .handoverExpired
      else { s with hou := { s.hou with echoDue := echoDue, record := some r } }

/-- The view is in difference: some participant peer's demand lies more than D_tol from the own (R54). -/
def State.inDifference (s : State) : Bool :=
  s.pt.view.peers.any (fun p => decide (s.param Idx.dTol < (s.ownDemand - p.2.frame.demand).natAbs))

/-- The disagreement check on the view just copied (R54 to R56). -/
def State.checkDemands (s : State) : State :=
  let tDis := s.param Idx.tDis
  let n := if s.inDifference then growTo tDis s.pt.disCounter 1 else 0
  let established := s.inDifference && decide (tDis ≤ n)
  { s with pt := { s.pt with
      disCounter := n
      disEstablished := established
      view := { s.pt.view with disagreement := established } } }.warnIf established .demandSplit

/-- Some participant peer shows a digest that differs from the own (R57). -/
def State.digestsDiffer (s : State) : Bool :=
  s.pt.view.peers.any (fun p => p.2.digest.isSome && decide (p.2.digest ≠ s.ps.digest))

/-- The digest comparison on the view just copied, in RUN only (R57). -/
def State.checkDigests (s : State) : State :=
  if s.ctl.state = .run ∧ s.digestsDiffer then
    { s with pt := { s.pt with view := { s.pt.view with mismatch := true } } }.raise .digestMismatch
  else s

/-- VIEW_LATCH (R48, R49, R50): in CONFIG the two checks are not run. -/
def State.latchView (s : State) : State :=
  let lost := s.lostNow
  let s := (s.copyView).loseInHandover lost
  let s := if s.ctl.state = .config then s else s.checkDemands.checkDigests
  { s with stage := .view }

def execViewLatch (s : State) : Host.Outcome State Fault Refusal :=
  onPublication .sample s State.latchView

end Sys2Proof.Machine
end

