-- ==== Sys2Proof/Machine/PortCommands.lean ====
section
/-! DEFINITION. The commands of the local port other than START, STOP and RESET_STATION
(09_local_port_and_parameter_store.md). -/

namespace Sys2Proof.Machine

/-- SET_WINDOW on its parameter words first and last (R173). -/
def State.takeWindow (s : State) (words : List Word) : State :=
  match words with
  | first :: last :: _ =>
    if last.toNat < first.toNat ∨ 148 < last.toNat then s.portFault
    else { s with lp := { s.lp with first := first.toNat, last := last.toNat, cursor := first.toNat } }
  | _ => s.portFault

/-- SET_WINDOW (R173). -/
def execSetWindow (_arg : Byte) (words : List Word) (s : State) : Host.Outcome State Fault Refusal :=
  onPort words s (·.takeWindow words)

/-- One parameter word of a WRITE_WORDS with the given count: outside CONFIG it is not acted on (R175), and
neither is a word beyond the count (R174). -/
def State.takeParameterWord (s : State) (count : Byte) (w : Word) : State :=
  let acts := s.ctl.state = .config ∧ s.lp.wordsTaken < count.toNat
  let s := if acts then s.writeAtCursor w else s
  { s with lp := { s.lp with wordsTaken := s.lp.wordsTaken + 1 } }

/-- PARAMETER_WORD_TAKEN (R174). -/
def execParameterWordTaken (count : Byte) (word : Word) (s : State) : Host.Outcome State Fault Refusal :=
  whenActive s (·.takeParameterWord count word)

/-- The end of a WRITE_WORDS transaction: the parameter words that no PARAMETER_WORD_TAKEN has acted on are
acted on in order, the reply of the previous transaction has been sent, and PORT_FAULT is raised once where
the command is refused outside CONFIG, lacks words, or had a word past the end (R172, R174, R175, R194; log 13). -/
def State.takeWriteWords (s : State) (count : Byte) (words : List Word) : State :=
  let s := (words.drop s.lp.wordsTaken).foldl (fun s w => s.takeParameterWord count w) s
  let refused := s.ctl.state ≠ .config ∨ s.lp.wordsTaken < count.toNat ∨ s.lp.overrun
  let s := if refused then s.portFault else s
  s.deliver (1 + s.lp.wordsTaken)

/-- WRITE_WORDS (R174, R175). -/
def execWriteWords (count : Byte) (words : List Word) (s : State) : Host.Outcome State Fault Refusal :=
  whenActive s (·.takeWriteWords count words)

/-- The n words read from the cursor on, 0 past the end of the window (R176). -/
def State.readFromCursor (s : State) (n : Nat) : List Word :=
  (List.range n).map fun k => if s.lp.cursor + k ≤ s.lp.last then s.word (s.lp.cursor + k) else 0

/-- The cursor after n words have been read: it stops past the end (R176). -/
def LocalPort.cursorAfter (lp : LocalPort) (n : Nat) : Nat := min (lp.cursor + n) (lp.last + 1)

/-- READ_WORDS (R176). -/
def State.takeReadWords (s : State) (count : Byte) : State :=
  { s with lp := { s.lp with
      reply := s.readFromCursor count.toNat
      cursor := s.lp.cursorAfter count.toNat } }

def execReadWords (count : Byte) (words : List Word) (s : State) : Host.Outcome State Fault Refusal :=
  onPort words s (·.takeReadWords count)

/-- SET_DEMAND: mode and demand are stored and the age set to 0 as one act; a demand beyond ±D_max is held
and reported (R178). -/
def State.takeDemand (s : State) (mode : Byte) (words : List Word) : State :=
  match modeOfCode mode.toNat, words with
  | some m, w :: _ =>
    let dMax : Int := s.param Idx.dMax
    let held := holdInt (-dMax) dMax w.toInt
    let s := if held ≠ w.toInt then s.raise .demandClamped else s
    { s with lp := { s.lp with demand := held, mode := m, demandAge := 0 } }
  | _, _ => s.portFault

def execSetDemand (mode : Byte) (words : List Word) (s : State) : Host.Outcome State Fault Refusal :=
  onPort words s (·.takeDemand mode words)

/-- A limit word held to 0..its wheel peak (R180). -/
def holdLimit (peak : Nat) (w : Word) : Nat := (holdInt 0 peak w.toInt).toNat

/-- SET_LIMITS: both limits and the flag are stored as one act; LIMIT_CLAMPED once where either was held
(R180). -/
def State.takeLimits (s : State) (immediate : Byte) (words : List Word) : State :=
  match words with
  | drive :: regen :: _ =>
    if 1 < immediate.toNat then s.portFault
    else
      let d := holdLimit (s.param Idx.drivePeak) drive
      let r := holdLimit (s.param Idx.regenPeak) regen
      let s := if (d : Int) ≠ drive.toInt ∨ (r : Int) ≠ regen.toInt then s.raise .limitClamped else s
      { s with lp := { s.lp with driveLimit := d, regenLimit := r, immediate := decide (immediate.toNat = 1) } }
  | _ => s.portFault

def execSetLimits (immediate : Byte) (words : List Word) (s : State) : Host.Outcome State Fault Refusal :=
  onPort words s (·.takeLimits immediate words)

/-- The READ_STATUS reply (R182). -/
def State.statusReply (s : State) : List Word :=
  [statusWord s.ctl.state s.reportedBasis s.ctl.stopCause s.ctl.refusalCode
     (decide (s.sbi.interval = .sixteen)) s.hou.report,
   natWord s.ctl.refusalIndex]

def execReadStatus (_arg : Byte) (words : List Word) (s : State) : Host.Outcome State Fault Refusal :=
  onPort words s fun s => s.setReply s.statusReply

/-- The snapshot burst: the copy, then its check code (R184). -/
def State.snapshotReply (s : State) : List Word :=
  s.lp.snapshot.toList ++ [wordsCheckCode s.lp.snapshot.toList]

def execReadSnapshot (_arg : Byte) (words : List Word) (s : State) : Host.Outcome State Fault Refusal :=
  onPort words s fun s => s.setReply s.snapshotReply

/-- The READ_PEER reply: the record as it stands in the table with its class judged now, NEVER, or
"no entry" (R59, R185). -/
def State.readPeerReply (s : State) (number : Byte) : List Word :=
  match s.pt.entries.find? (fun e => e.station.val == number.toNat) with
  | none => emptyPeerReply 0
  | some e =>
    match e.record with
    | none => emptyPeerReply AgeClass.never.code
    | some r => peerReply r (s.classOf (some r))

def execReadPeer (number : Byte) (words : List Word) (s : State) : Host.Outcome State Fault Refusal :=
  onPort words s fun s => s.setReply (s.readPeerReply number)

/-- The READ_DIAG reply: the flags, then the five counters (R186). -/
def State.diagReply (s : State) : List Word :=
  [s.hu.flags, natWord s.hu.frameReject, natWord s.hu.txOverwrite, natWord s.hu.txErrors,
   natWord s.hu.missed, natWord s.hu.storeOverrun]

/-- READ_DIAG: the flags and counters are copied into the reply and cleared (R186, R196). -/
def State.takeReadDiag (s : State) : State := { s.setReply s.diagReply with hu := s.hu.clear }

def execReadDiag (_arg : Byte) (words : List Word) (s : State) : Host.Outcome State Fault Refusal :=
  onPort words s State.takeReadDiag

/-- UNKNOWN_COMMAND is refused (R172). -/
def execUnknownCommand (_code _arg : Byte) (words : List Word) (s : State) : Host.Outcome State Fault Refusal :=
  onPort words s State.portFault

/-- INCOMPLETE_TRANSACTION carries no command; no whole word was taken, so no reply word was sent, and the
reply buffer is emptied (R170, R171). -/
def execIncompleteTransaction (s : State) : Host.Outcome State Fault Refusal :=
  whenActive s (·.deliver 0)

end Sys2Proof.Machine
end

