-- ==== Sys2Proof/Machine/Slip.lean ====
section
/-! DEFINITION. The Slip Unit (04_wheel_speed_and_slip.md, 4.5 to 4.9). -/

namespace Sys2Proof.Machine

/-- The own filtered axle speed (R72). -/
def State.ownSpeed (s : State) : Nat := s.wsu.sample.filtered

/-- The filtered axle speeds of the participant peers in the view. -/
def State.peerSpeeds (s : State) : List Nat := s.pt.view.peers.map (fun p => p.2.frame.axleSpeed)

/-- The demand sign (R75). -/
def State.demandSign (s : State) : Sign := Sign.ofInt s.usedDemand

/-- The reference speed after this evaluation, for the demand sign just taken (R76, R77). -/
def State.nextReference (s : State) (g : Sign) : Nat :=
  match g with
  | .negative => max (s.peerSpeeds.foldl max s.ownSpeed * 16) (s.slu.reference - s.param Idx.aDown)
  | .zero => min (s.peerSpeeds.foldl min s.ownSpeed * 16) (s.slu.reference + s.param Idx.aUp)
  | .positive => min (s.peerSpeeds.foldl min s.ownSpeed * 16) (s.slu.reference + s.param Idx.aUp)

/-- The slip ratio of an own speed in q4 against a reference in q8 (R78). -/
def slipRatio (speed reference : Nat) : Int :=
  holdInt (-1000) 1000 (Int.tdiv ((((speed * 16 : Nat) : Int) - reference) * 1000) (max reference 512 : Nat))

/-- The slip flag by hysteresis, from the flag it starts with (R79). -/
def slipFlag (g : Sign) (sOn sHys : Nat) (ratio : Int) (before : Bool) : Bool :=
  match g with
  | .zero => false
  | .positive => if (sOn : Int) ≤ ratio then true else if ratio < (sOn : Int) - sHys then false else before
  | .negative => if ratio ≤ -(sOn : Int) then true else if -((sOn : Int) - sHys) < ratio then false else before

/-- A value after a cut (R82, R83). -/
def cutTo (tlMin cut v : Nat) : Nat := max tlMin (v * (16 - cut) / 16)

/-- One growth of TL in RECOVER: it ends the recovery when it takes TL from below the unlimited capacity
to reach it, or to the wheel peak (R84; log 20). -/
def SlipUnit.growTl (u : SlipUnit) (step unlimited peak : Nat) : SlipUnit :=
  let grown := u.tl + step
  if (u.tl < unlimited ∧ unlimited ≤ grown) ∨ peak ≤ grown then { u with tlState := .none, tl := unlimited }
  else { u with tlState := .recover, tl := grown }

/-- The parameters and inputs of the traction limit at one evaluation. -/
structure TlInputs where
  unlimited : Nat
  peak : Nat
  applied : Nat
  tlMin : Nat
  cut : Nat
  hSlip : Nat
  recStep : Nat
deriving DecidableEq, Repr

/-- A cut at a rising edge, from the lesser of TL and the applied torque (R82). -/
def SlipUnit.risingCut (u : SlipUnit) (i : TlInputs) : SlipUnit :=
  { u with tlState := .cut, tl := cutTo i.tlMin i.cut (min u.tl i.applied), hold := 0, cutMark := true }

/-- An evaluation in CUT at which the flag stays set: the hold counter, and the hold cut it makes due (R83). -/
def SlipUnit.holdCut (u : SlipUnit) (i : TlInputs) : SlipUnit :=
  if u.hold + 1 < i.hSlip then { u with hold := u.hold + 1 }
  else { u with tl := cutTo i.tlMin i.cut u.tl, hold := 0, cutMark := true }

/-- The traction limit at an evaluation, once a change of sign has been dealt with (R81 to R84). The flag is
the one this evaluation has left; `rising` says whether it has a rising edge (log 19). -/
def SlipUnit.limit (u : SlipUnit) (i : TlInputs) (rising : Bool) : SlipUnit :=
  let u := match u.tlState with
    | .none => { u with tl := i.unlimited }
    | .cut => u
    | .recover => u
  if rising then u.risingCut i
  else
    match u.tlState with
    | .none => u
    | .cut => if u.flag then u.holdCut i else u.growTl i.recStep i.unlimited i.peak
    | .recover => if u.flag then u else u.growTl i.recStep i.unlimited i.peak

/-- A change of the demand sign returns TL to NONE, and the flag to clear, before the flag is evaluated for
the new sign (R80, R85; log 21). -/
def SlipUnit.onSign (u : SlipUnit) (g : Sign) : SlipUnit :=
  if g = u.sign then u else { u with sign := g, flag := false, tlState := .none, hold := 0 }

/-- The inputs of the traction limit in the present view and sign (R81, R82, R84). -/
def State.tlInputs (s : State) (g : Sign) : TlInputs where
  unlimited := s.pt.view.limit g
  peak := s.wheelPeak g
  applied := s.csh.applied.natAbs
  tlMin := s.param Idx.tlMin
  cut := s.param Idx.cut
  hSlip := s.param Idx.hSlip
  recStep := s.param Idx.recStep

/-- The SLU after an evaluation (R74). -/
def State.evaluatedSlip (s : State) : SlipUnit :=
  let g := s.demandSign
  let reference := s.nextReference g
  let ratio := slipRatio s.ownSpeed reference
  let u := s.slu.onSign g
  let flag := slipFlag g (s.param Idx.sOn) s.sHys ratio u.flag
  let rising := flag && !u.flag
  { u with reference := reference, ratio := ratio, flag := flag, cutMark := false }.limit (s.tlInputs g) rising

/-- SLIP_EVALUATION (R74, R86). -/
def State.evaluateSlip (s : State) : State := { s with slu := s.evaluatedSlip, stage := .slip }

def execSlipEvaluation (s : State) : Host.Outcome State Fault Refusal :=
  onPublication .view s State.evaluateSlip

end Sys2Proof.Machine
end

