-- ==== Sys2Proof/Machine/WheelSpeed.lean ====
section
/-! DEFINITION. The Wheel Speed Unit, and all that a period timer expiry does: the sample, the idle watch
of the SBI, the demand age of the LP (04_wheel_speed_and_slip.md; R24, R179). -/

namespace Sys2Proof.Machine

/-- The longest time without an edge that still counts as turning, in µs (R62 to R64). -/
abbrev longestGap : Nat := 250000

/-- A time between two readings of the 1 µs count, modulo 2 to the power 32, with 0 taken as 1. -/
def usBetween (earlier later : BitVec 32) : Nat := max 1 (later - earlier).toNat

/-- The interval Δ a pulse at time `now` gives (R62). -/
def WheelHistory.nextDelta (w : WheelHistory) (now : BitVec 32) : Option Nat :=
  match w.lastTime with
  | none => w.delta
  | some t => if w.expired then some (longestGap + 1) else some (min (longestGap + 1) (usBetween t now))

/-- A pulse at time `now` (R62, R69). -/
def WheelHistory.pulse (w : WheelHistory) (now : BitVec 32) : WheelHistory where
  lastTime := some now
  delta := w.nextDelta now
  pulses := growTo 255 w.pulses 1
  expired := false
  silentTimer := 0
  silent := false

/-- WHEEL_PULSE (R62): taken in every state; the pulse of one wheel changes nothing of the other's (log 1). -/
def State.takePulse (s : State) (wheel : Wheel) (elapsed : BitVec 32) : State :=
  let now := s.wsu.usCount + elapsed
  match wheel with
  | .wheel0 => { s with wsu := { s.wsu with usCount := now, wheel0 := s.wsu.wheel0.pulse now } }
  | .wheel1 => { s with wsu := { s.wsu with usCount := now, wheel1 := s.wsu.wheel1.pulse now } }

def execWheelPulse (wheel : Wheel) (elapsed : BitVec 32) (s : State) : Host.Outcome State Fault Refusal :=
  whenActive s (·.takePulse wheel elapsed)

/-- The time e since the last pulse at a sample, where the wheel has one (R63). -/
def WheelHistory.sinceLast (w : WheelHistory) (now : BitVec 32) : Option Nat :=
  w.lastTime.map (fun t => usBetween t now)

/-- The expired mark and the silent timer at a sample (R63; log 31). -/
def WheelHistory.atSample (w : WheelHistory) (now : BitVec 32) : WheelHistory :=
  { w with
    expired := w.expired || (w.sinceLast now).any (fun e => decide (longestGap < e))
    silentTimer := growTo 2000 w.silentTimer 1 }

/-- The speed v of a wheel at a sample, from its history after the expired mark has been judged (R64). -/
def WheelHistory.speed (w : WheelHistory) (now : BitVec 32) (distance : Nat) : Nat :=
  if w.pulses < 2 ∨ w.expired then 0
  else
    match w.sinceLast now, w.delta with
    | some e, some d => min 8191 (distance * 576 / max d e)
    | some e, none => min 8191 (distance * 576 / e)
    | none, _ => 0

/-- The trimmed and clamped speed v' (R66). -/
def trimSpeed (v : Nat) (trim : Int) : Nat := min 4095 ((v : Int) * (1000 + trim) / 1000).toNat

/-- The other wheel's speed above which a wheel can be found silent: 4 km/h (R68). -/
abbrev turningSpeed : Nat := 64

/-- The first two conditions of R68 for a wheel: its silent timer, and the other wheel's speed. -/
def meetsSilent (silentTime timer otherSpeed : Nat) : Bool :=
  decide (silentTime ≤ timer) && decide (turningSpeed < otherSpeed)

/-- The axle speed of a sample (R70). -/
def axleSpeed (silent0 silent1 : Bool) (v0 v1 : Nat) : Nat :=
  if silent0 then v1 else if silent1 then v0 else (v0 + v1) / 2

/-- A window after one more entry: its 8 newest (R71). -/
def pushWindow (w : List Nat) (x : Nat) : List Nat :=
  let l := w ++ [x]
  l.drop (l.length - 8)

/-- The floor of the mean of the newest c entries, c the smaller of n and the number held (R71). -/
def windowMean (w : List Nat) (n : Nat) : Nat :=
  let c := min n w.length
  (w.drop (w.length - c)).sum / c

/-- The sample of both wheels, the axle speed and the filter (R63 to R72). -/
def State.sampleWheels (s : State) (elapsed : BitVec 32) : State :=
  let now := s.wsu.usCount + elapsed
  let w0 := s.wsu.wheel0.atSample now
  let w1 := s.wsu.wheel1.atSample now
  let v0 := trimSpeed (w0.speed now (s.wheelDistance .wheel0)) (s.wheelTrim .wheel0)
  let v1 := trimSpeed (w1.speed now (s.wheelDistance .wheel1)) (s.wheelTrim .wheel1)
  let meets0 := meetsSilent (s.param Idx.silentTime) w0.silentTimer v1
  let meets1 := meetsSilent (s.param Idx.silentTime) w1.silentTimer v0
  let anySilent := w0.silent || w1.silent
  let silent0 := w0.silent || (meets0 && !meets1 && !anySilent)
  let silent1 := w1.silent || (meets1 && !meets0 && !anySilent)
  let axle := axleSpeed silent0 silent1 v0 v1
  let windowA := pushWindow s.wsu.windowA axle
  let windowB := pushWindow s.wsu.windowB (windowMean windowA (s.param Idx.nA))
  let s := { s with wsu := {
    usCount := now
    wheel0 := { w0 with silent := silent0 }
    wheel1 := { w1 with silent := silent1 }
    windowA := windowA
    windowB := windowB
    sample := {
      speed0 := v0
      speed1 := v1
      silent0 := silent0
      silent1 := silent1
      axle := axle
      filtered := windowMean windowB (s.param Idx.nB) } } }
  s.warnIf (silent0 || silent1) .wheelSilent

/-- The idle watch of the SBI at an expiry (R24). -/
def State.watchBus (s : State) : State :=
  let n := if s.sbi.slot.isSome && !s.sbi.gapSeen then growTo 10 s.sbi.idleWatch 1 else 0
  let s := { s with sbi := { s.sbi with idleWatch := n, gapSeen := false } }
  if n = 10 then s.raiseError .busBlocked else s

/-- The LP's demand age at an expiry (R179). -/
def State.ageDemand (s : State) : State :=
  { s with lp := { s.lp with demandAge := growTo 255 s.lp.demandAge 1 } }

/-- The inverter frame of the period before has ended, and ICLTX is idle until the next publication (R165; log 25). -/
def InverterLine.idle (l : InverterLine) : InverterLine := { l with line := none }

/-- PERIOD_TIMER_EXPIRY (R24, R63, R165, R179): a new period begins, and the WSU's publication of its sample is
outstanding from here on (log 4, log 9). -/
def State.takeExpiry (s : State) (elapsed : BitVec 32) : State :=
  let s := { s with periodCount := s.periodCount + 1, icl := s.icl.idle }
  { (s.watchBus.ageDemand.sampleWheels elapsed) with stage := .sample }

def execPeriodTimerExpiry (elapsed : BitVec 32) (s : State) : Host.Outcome State Fault Refusal :=
  whenActive s (·.takeExpiry elapsed)

end Sys2Proof.Machine
end

