-- ==== Sys2Proof/Machine/Dispatch.lean ====
section
/-! DEFINITION. The meaning of every command and event: one arm per row of the table. -/

namespace Sys2Proof.Machine

def exec (i : Instr) (s : State) : Host.Outcome State Fault Refusal :=
  match i with
  | .powerOnReset stn1 stn0 => Sys2Proof.Machine.execPowerOnReset stn1 stn0 s
  | .rstnAssert => Sys2Proof.Machine.execRstnAssert s
  | .rstnRelease stn1 stn0 => Sys2Proof.Machine.execRstnRelease stn1 stn0 s
  | .resetStation arg words => Sys2Proof.Machine.execResetStation arg words s
  | .start arg words => Sys2Proof.Machine.execStart arg words s
  | .stop arg words => Sys2Proof.Machine.execStop arg words s
  | .setWindow arg words => Sys2Proof.Machine.execSetWindow arg words s
  | .writeWords count words => Sys2Proof.Machine.execWriteWords count words s
  | .readWords count words => Sys2Proof.Machine.execReadWords count words s
  | .setDemand mode words => Sys2Proof.Machine.execSetDemand mode words s
  | .setLimits immediate words => Sys2Proof.Machine.execSetLimits immediate words s
  | .readStatus arg words => Sys2Proof.Machine.execReadStatus arg words s
  | .readSnapshot arg words => Sys2Proof.Machine.execReadSnapshot arg words s
  | .readPeer number words => Sys2Proof.Machine.execReadPeer number words s
  | .readDiag arg words => Sys2Proof.Machine.execReadDiag arg words s
  | .unknownCommand code arg words => Sys2Proof.Machine.execUnknownCommand code arg words s
  | .incompleteTransaction => Sys2Proof.Machine.execIncompleteTransaction s
  | .periodTimerExpiry elapsed => Sys2Proof.Machine.execPeriodTimerExpiry elapsed s
  | .viewLatch => Sys2Proof.Machine.execViewLatch s
  | .slipEvaluation => Sys2Proof.Machine.execSlipEvaluation s
  | .handoverStep => Sys2Proof.Machine.execHandoverStep s
  | .allocationComputation => Sys2Proof.Machine.execAllocationComputation s
  | .commandShaping => Sys2Proof.Machine.execCommandShaping s
  | .pmkPulseEnd => Sys2Proof.Machine.execPmkPulseEnd s
  | .wheelPulse wheel elapsed => Sys2Proof.Machine.execWheelPulse wheel elapsed s
  | .interframeGap => Sys2Proof.Machine.execInterframeGap s
  | .contentionLost => Sys2Proof.Machine.execContentionLost s
  | .txError => Sys2Proof.Machine.execTxError s
  | .frameTxComplete => Sys2Proof.Machine.execFrameTxComplete s
  | .frameReceived bytes => Sys2Proof.Machine.execFrameReceived bytes s
  | .supplyOrClockInvalid => Sys2Proof.Machine.execSupplyOrClockInvalid s
  | .firstStartBitAfterGap => Sys2Proof.Machine.execFirstStartBitAfterGap s
  | .parameterWordTaken count word => Sys2Proof.Machine.execParameterWordTaken count word s

end Sys2Proof.Machine
end

