-- ==== Sys2Proof/Safety.lean ====
section
/-! DEFINITION. What a safe state is, in the terms the statements use: invariants that every step keeps. -/

namespace Sys2Proof.Machine

/-- The events of the supply and of RSTn: the commands a station held in a reset still answers (R3, R4). -/
def supplyEvent : Instr → Bool
  | .powerOnReset _ _ => true
  | .rstnAssert => true
  | .rstnRelease _ _ => true
  | .supplyOrClockInvalid => true
  | .resetStation _ _ => false
  | .start _ _ => false
  | .stop _ _ => false
  | .setWindow _ _ => false
  | .writeWords _ _ => false
  | .readWords _ _ => false
  | .setDemand _ _ => false
  | .setLimits _ _ => false
  | .readStatus _ _ => false
  | .readSnapshot _ _ => false
  | .readPeer _ _ => false
  | .readDiag _ _ => false
  | .unknownCommand _ _ _ => false
  | .incompleteTransaction => false
  | .periodTimerExpiry _ => false
  | .viewLatch => false
  | .slipEvaluation => false
  | .handoverStep => false
  | .allocationComputation => false
  | .commandShaping => false
  | .pmkPulseEnd => false
  | .wheelPulse _ _ => false
  | .interframeGap => false
  | .contentionLost => false
  | .txError => false
  | .frameTxComplete => false
  | .frameReceived _ => false
  | .firstStartBitAfterGap => false
  | .parameterWordTaken _ _ => false

/-- The states in which the station holds no torque (R162). -/
abbrev LifeState.resting (l : LifeState) : Prop := l = .config ∨ l = .listen ∨ l = .stopped

/-- The life cycle and what it decides: the store is locked and has a digest exactly outside CONFIG (R189, R100), and
has passed validation there (R6, R189); a resting station commands and applies nothing (R162); a station whose
duplicate latch is set has an empty slot, the cause DUPLICATE, and is STOPPING or STOPPED (R15); in CONFIG the station
is not on the bus (R30, R39); the table has one entry per expected peer outside CONFIG and none in it (R40). -/
abbrev State.lifeInv (s : State) : Prop :=
  (s.ps.locked = true ↔ s.ctl.state ≠ .config)
  ∧ (s.ps.digest.isSome = true ↔ s.ctl.state ≠ .config)
  ∧ (s.ctl.state ≠ .config → s.validate = none)
  ∧ (s.ctl.state.resting → s.csh.command = 0 ∧ s.csh.applied = 0)
  ∧ (s.ctl.dupLatch = true → s.sbi.slot = none ∧ s.ctl.stopCause = .duplicate
      ∧ (s.ctl.state = .stopping ∨ s.ctl.state = .stopped))
  ∧ (s.ctl.state = .config → s.sbi.slot = none ∧ s.sbi.inFlight = none ∧ s.sbi.completing = none)
  ∧ s.pt.entries.map (fun e => e.station) = (if s.ctl.state = .config then [] else s.expectedPeers)

/-- An open handover record: the station is in RUN, the sign is that of a demand, target ≤ L_ho ≤ from, the
timer is below T_ho, the tag is not 0 (R128, R129, R138, R139). -/
abbrev State.handoverInv (s : State) : Prop :=
  s.hou.record.all (fun r =>
    decide (s.ctl.state = .run) && decide (r.sign ≠ .zero) && decide (r.target ≤ r.lHo)
      && decide (r.lHo ≤ r.origin) && decide (r.timer < s.param Idx.tHo) && decide (r.tag ≠ 0)) = true

/-- The view's sets are those its entries give, and its entries are those of the expected peers; in CONFIG it
has none (R48, R50 to R53). -/
abbrev State.viewInv (s : State) : Prop :=
  s.pt.view.entries.map (fun e => e.station) = (if s.ctl.state = .config then [] else s.expectedPeers)
  ∧ s.pt.view.participants =
      (if s.ctl.state = .config then [] else participantsOf s.own s.pt.view.entries)
  ∧ s.pt.view.reserved = reservedOf s.pt.view.entries

/-- At most one wheel is silent (R69). -/
abbrev State.silentInv (s : State) : Prop := ¬(s.wsu.wheel0.silent = true ∧ s.wsu.wheel1.silent = true)

/-- A wheel's history in the ranges of 04 section 4.1 (R62, R63). -/
abbrev WheelHistory.inRange (w : WheelHistory) : Prop :=
  w.pulses ≤ 255 ∧ w.silentTimer ≤ 2000 ∧ w.delta.all (fun d => decide (1 ≤ d ∧ d ≤ 250001)) = true

/-- A peer's record: a frame that passed the tests of R31, the missed count and the age in their ranges (R31, R41). -/
def PeerRecord.inRange (r : PeerRecord) : Bool := r.frame.legal && decide (r.missed ≤ 255 ∧ r.age ≤ 4095)

/-- An open handover record's tag, torques and timer in their ranges (R128). -/
def HoRecord.inRange (r : HoRecord) : Bool :=
  decide (r.tag ≠ 0 ∧ 1 ≤ r.origin ∧ r.origin ≤ 20000 ∧ r.target ≤ 20000 ∧ r.lHo ≤ 20000 ∧ r.timer ≤ 250)

/-- Station control and the local port: outside CONFIG each limit lies within its wheel peak (R1, R169, R173, R180,
R181). -/
abbrev State.portRange (s : State) : Prop :=
  (s.ctl.refusalCode ≤ 6 ∧ s.ctl.refusalIndex ≤ 148)
  ∧ (s.ctl.listenCounter ≤ 250 ∧ (s.ctl.state = .listen → s.ctl.listenCounter < s.param Idx.lListen))
  ∧ (s.lp.first ≤ s.lp.last ∧ s.lp.last ≤ 148 ∧ s.lp.first ≤ s.lp.cursor ∧ s.lp.cursor ≤ s.lp.last + 1)
  ∧ (s.lp.demand.natAbs ≤ 20000 ∧ s.lp.driveLimit ≤ 20000 ∧ s.lp.regenLimit ≤ 20000
      ∧ s.lp.demandAge ≤ 255)
  ∧ (s.ctl.state ≠ .config →
      s.lp.driveLimit ≤ s.param Idx.drivePeak ∧ s.lp.regenLimit ≤ s.param Idx.regenPeak)

/-- The wheels, the filter and the axle sample (04 section 4.1, R66, R71, R72). -/
abbrev State.wheelRange (s : State) : Prop :=
  s.wsu.wheel0.inRange ∧ s.wsu.wheel1.inRange
  ∧ s.wsu.windowA.length ≤ 8 ∧ s.wsu.windowB.length ≤ 8
  ∧ (∀ v ∈ s.wsu.windowA, v ≤ 4095) ∧ (∀ v ∈ s.wsu.windowB, v ≤ 4095)
  ∧ s.wsu.sample.speed0 ≤ 4095 ∧ s.wsu.sample.speed1 ≤ 4095 ∧ s.wsu.sample.axle ≤ 4095 ∧ s.wsu.sample.filtered ≤ 4095

/-- The peer table and the view: outside CONFIG the disagreement counter lies within T_dis, and each limit of the view
within its wheel peak (R41, R48, R55, R181). -/
abbrev State.tableRange (s : State) : Prop :=
  (∀ e ∈ s.pt.entries, e.record.all PeerRecord.inRange = true) ∧ s.pt.disCounter ≤ 250
  ∧ (∀ e ∈ s.pt.view.entries, e.record.all PeerRecord.inRange = true)
  ∧ s.pt.view.driveLimit ≤ 20000 ∧ s.pt.view.regenLimit ≤ 20000
  ∧ s.pt.view.demand.natAbs ≤ 20000 ∧ s.pt.view.demandAge ≤ 255
  ∧ (s.ctl.state ≠ .config → s.pt.disCounter ≤ s.param Idx.tDis
      ∧ s.pt.view.driveLimit ≤ s.param Idx.drivePeak ∧ s.pt.view.regenLimit ≤ s.param Idx.regenPeak)

/-- The Slip Unit and the Handover Unit: at most one echo-due entry per originator, none of the own number, so at most
3, each with a tag (R74, R78, R127, R128, R145). -/
abbrev State.slipRange (s : State) : Prop :=
  (s.slu.reference ≤ 65520 ∧ -1000 ≤ s.slu.ratio ∧ s.slu.ratio ≤ 1000 ∧ s.slu.tl ≤ 20000 ∧ s.slu.hold ≤ 100)
  ∧ s.hou.record.all HoRecord.inRange = true
  ∧ s.hou.published.all (fun l => decide (l ≤ 20000)) = true
  ∧ s.hou.prevLimits.all (fun l => decide (l.1 ≤ 20000 ∧ l.2 ≤ 20000)) = true
  ∧ s.hou.echoDue.length ≤ 3 ∧ s.hou.echoDue.Pairwise (fun a b => a.originator ≠ b.originator)
  ∧ (∀ e ∈ s.hou.echoDue, e.originator ≠ s.own ∧ e.tag ≠ 0)

/-- The Allocation Engine and the Command Shaper: the motor command and its target lie within ±motor peak, in CONFIG
the target is 0 (R92, R103, R151, R154, R158, R162). -/
abbrev State.torqueRange (s : State) : Prop :=
  (s.ale.selection.pattern ≤ 15 ∧ s.ale.selection.band ≤ 15 ∧ s.ale.selection.code ≤ 8 ∧ s.ale.selection.trim ≤ 12)
  ∧ (s.ale.demand.natAbs ≤ 20000 ∧ s.ale.aSelf.natAbs ≤ 20000
      ∧ s.ale.aFree.all (fun a => decide (a.natAbs ≤ 20000)) = true ∧ s.ale.shortfall ≤ 20000)
  ∧ (s.csh.command.natAbs ≤ 4000 ∧ s.csh.target.natAbs ≤ 4000 ∧ s.csh.applied.natAbs ≤ 20000)
  ∧ (s.csh.command.natAbs ≤ s.param Idx.motorPeak ∧ s.csh.target.natAbs ≤ s.param Idx.motorPeak)
  ∧ (s.ctl.state = .config → s.csh.target = 0)

/-- The share bus interface and the Health Unit: outside CONFIG the quiet counter lies within Q (R24, R25, R35, R39,
R191, R198). -/
abbrev State.healthRange (s : State) : Prop :=
  (s.sbi.idleWatch ≤ 10 ∧ s.sbi.service ≤ 15 ∧ s.sbi.quiet ≤ 4000)
  ∧ (s.ctl.state ≠ .config → s.sbi.quiet ≤ s.param Idx.quietCount)
  ∧ (s.hu.frameReject ≤ 65535 ∧ s.hu.txOverwrite ≤ 65535 ∧ s.hu.txErrors ≤ 65535
      ∧ s.hu.missed ≤ 65535 ∧ s.hu.storeOverrun ≤ 65535)
  ∧ s.hu.pmkLeft ≤ 2

/-- Every register lies in the range its table gives, block by block. -/
abbrev State.rangeInv (s : State) : Prop :=
  s.portRange ∧ s.wheelRange ∧ s.tableRange ∧ s.slipRange ∧ s.torqueRange ∧ s.healthRange

end Sys2Proof.Machine
end

