-- ==== Sys2Proof/WellFormed.lean ====
section
/-! DEFINITION. Which commands can come: what the pins, the host and the bus cannot produce is ill-formed.
No meaning asks for it: `exec` answers for ill-formed commands as for others. -/

namespace Sys2Proof

/-- The twelve command codes of the local port (R173 to R186). -/
def commandCodes : List Byte :=
  [0x01, 0x02, 0x03, 0x10, 0x11, 0x1F, 0x20, 0x21, 0x30, 0x31, 0x32, 0x33]

/-- The period timer runs from the same clock as the 1 µs count and expires every 1000 µs (R3, R5), so two
commands that carry a time are never further apart. -/
def elapsedOk (elapsed : BitVec 32) : Bool := decide (elapsed.toNat ≤ 1000)

/-- A command that the outside world can give. -/
def Instr.wellFormed : Instr → Bool
  | .powerOnReset _ _ => true
  | .rstnAssert => true
  | .rstnRelease _ _ => true
  | .resetStation _ _ => true
  | .start _ _ => true
  | .stop _ _ => true
  | .setWindow _ _ => true
  | .writeWords _ _ => true
  | .readWords _ _ => true
  | .setDemand _ _ => true
  | .setLimits _ _ => true
  | .readStatus _ _ => true
  | .readSnapshot _ _ => true
  | .readPeer _ _ => true
  | .readDiag _ _ => true
  | .unknownCommand code _ _ => !commandCodes.contains code
  | .incompleteTransaction => true
  | .periodTimerExpiry elapsed => elapsedOk elapsed
  | .viewLatch => true
  | .slipEvaluation => true
  | .handoverStep => true
  | .allocationComputation => true
  | .commandShaping => true
  | .pmkPulseEnd => true
  | .wheelPulse _ elapsed => elapsedOk elapsed
  | .interframeGap => true
  | .contentionLost => true
  | .txError => true
  | .frameTxComplete => true
  | .frameReceived bytes => !bytes.isEmpty
  | .supplyOrClockInvalid => true
  | .firstStartBitAfterGap => true
  | .parameterWordTaken count _ => count != 0

end Sys2Proof
end

