-- ==== Sys2Proof/Certificates/Slice0/Obligations.lean ====
section
/-! DEFINITION. The statements for the provers. Each docstring names the rules it formalises; where a clause is
the model's own choice or reading it names the log entry. -/

section
open Sys2Proof Sys2Proof.Machine

/-! ## The queue and the step -/

/-- A step takes the command at the front of the queue and runs it on the state with the queue's rest; on an empty
queue the station idles. The queue and the idling are the model's own (log 2). -/
def Obligations.StepRunsTheFrontCommand : Prop :=
  ∀ (c : Instr) (rest : List Instr) (s : State),
    step { s with pending := c :: rest } = exec c { s with pending := rest }
    ∧ step { s with pending := [] } = .next { s with pending := [] }

/-- No command stops: exec answers a next state from every state, and the queue, which is the model's own (log 2),
stands through every command. What each command does is said by its own statements. -/
def Obligations.EveryCommandCompletes : Prop :=
  ∀ (c : Instr) (s : State), ∃ t : State, exec c s = .next t ∧ t.pending = s.pending

/-! ## Supply, resets and the strap number (R1 to R5) -/

/-- The end of a power-on reset and the release of RSTn leave the reset state with the strap number sampled, STN1
counting 2 and STN0 counting 1 (R2, R3, R4); with RSTn still low the power-on reset leaves it low, and an RSTn release
without supply does nothing but raise RSTn (log 7). -/
def Obligations.SupplyAndReleaseEndTheReset : Prop :=
  ∀ (stn1 stn0 : Bool) (n : Station) (s : State), n.val = 2 * stn1.toNat + stn0.toNat →
    exec (.powerOnReset stn1 stn0) s = .next { State.reset with
      ctl := Control.reset n, rstnHigh := s.rstnHigh, pending := s.pending }
    ∧ (s.supplyValid = true → exec (.rstnRelease stn1 stn0) s = .next { State.reset with
        ctl := Control.reset n, pending := s.pending })
    ∧ (s.supplyValid = false → exec (.rstnRelease stn1 stn0) s = .next { s with rstnHigh := true })

/-- RSTn low, or the loss of supply or clock, makes the station inactive: nothing is on the share bus or the inverter
line, PMK is low, no computation is under way, no reply waits (R3, R4, R168, R191). That the words of the store and
the strap number stand until the release is the model's reading (log 6). A station held so changes on no command but
the supply and RSTn events (log 5). -/
def Obligations.ResetEventsHoldTheStation : Prop :=
  ∀ (c : Instr) (s : State),
    (s.active = false → supplyEvent c = false → exec c s = .next s)
    ∧ (c = .rstnAssert ∨ c = .supplyOrClockInvalid → ∃ t : State, exec c s = .next t ∧ t.active = false
      ∧ t.supplyValid = (if c = .rstnAssert then s.supplyValid else false)
      ∧ t.rstnHigh = (if c = .rstnAssert then false else s.rstnHigh)
      ∧ t.stage = .none ∧ t.ctl = Control.reset s.ctl.strap ∧ t.sbi = ShareBus.reset ∧ t.icl = InverterLine.reset
      ∧ t.hu = HealthUnit.reset ∧ t.csh = Shaper.reset ∧ t.hou = HandoverUnit.reset ∧ t.lp.reply = []
      ∧ t.wsu = WheelUnit.reset ∧ t.slu = SlipUnit.reset ∧ t.ale = AllocationEngine.reset ∧ t.pt.entries = []
      ∧ t.periodCount = 0 ∧ t.ps = { words := s.ps.words, locked := false, digest := none }
      ∧ t.pending = s.pending)

/-- RESET_STATION keeps the store words and the strap number; all else takes its value after reset, the limits being
the wheel peaks of the store held to 0..20000 (R5, R169). The words its transaction sent stay recorded in `sdo` (log
12). -/
def Obligations.ResetStationKeepsStoreAndStrap : Prop :=
  ∀ (arg : Byte) (words : List Word) (s : State), s.active = true →
    exec (.resetStation arg words) s = .next { State.reset with
      ctl := Control.reset s.ctl.strap
      pt := PeerTable.reset (min 20000 (s.word 140).toNat) (min 20000 (s.word 141).toNat)
      lp := { LocalPort.reset (min 20000 (s.word 140).toNat) (min 20000 (s.word 141).toNat) with
        sdo := (s.deliver (1 + words.length)).lp.sdo }
      ps := { words := s.ps.words, locked := false, digest := none }
      pending := s.pending }

/-! ## START and STOP (R6 to R16) -/

/-- Validation accepts a store exactly where every check of R7 passes; where it refuses, the code is 1..6, the checks
before it pass, and the index of codes 3 to 6 is the lowest at which the check fails. The ranges are those of the map:
fixed ranges, S_hys below word 10 as stored, the trims as signed words (R203). -/
def Obligations.ValidationReportsTheFirstFailure : Prop :=
  ∀ s : State,
    (s.validate = none ↔
      (s.word 4).toNat ≤ 15 ∧ (s.word 4).getLsbD s.ctl.strap.val = true ∧ 2 ≤ s.expected.length
      ∧ (∀ i, (5 ≤ i ∧ i ≤ 53) ∨ (134 ≤ i ∧ i ≤ 148) → s.outOfRange i = false)
      ∧ (∀ i, 54 ≤ i ∧ i ≤ 117 → (s.word i).toNat ≤ 7)
      ∧ (∀ i, 118 ≤ i ∧ i ≤ 133 → (s.word i).toNat / 256 ≤ 8 ∧ (s.word i).toNat % 256 ≤ 12)
      ∧ s.word 118 = 0x0800
      ∧ (∀ k, k < 8 →
          ((∃ i, 54 ≤ i ∧ i ≤ 117 ∧ (s.word i).toNat = k)
            ∨ ∃ i, 118 ≤ i ∧ i ≤ 133 ∧ (s.word i).toNat / 256 = k) →
          ∃ n : Station, (s.word 4).getLsbD n.val = true ∧ 0 < (s.word (22 + 4 * k + n.val)).toNat))
    ∧ (∀ code i, s.validate = some (code, i) → 1 ≤ code ∧ code ≤ 6 ∧ i ≤ 148
        ∧ (code = 1 → i = 4 ∧ (s.word 4).getLsbD s.ctl.strap.val = false)
        ∧ (code = 2 → i = 4 ∧ s.expected.length < 2)
        ∧ (code = 3 → (i = 4 ∧ 15 < (s.word 4).toNat)
            ∨ (((5 ≤ i ∧ i ≤ 53) ∨ (134 ≤ i ∧ i ≤ 148)) ∧ s.outOfRange i = true
              ∧ ∀ j, 5 ≤ j → j < i → j ≤ 53 ∨ 134 ≤ j → s.outOfRange j = false))
        ∧ (code = 4 → 54 ≤ i ∧ i ≤ 117 ∧ 7 < (s.word i).toNat
            ∧ ∀ j, 54 ≤ j → j < i → (s.word j).toNat ≤ 7)
        ∧ (code = 5 → 118 ≤ i ∧ i ≤ 133 ∧ s.badPattern i = true
            ∧ ∀ j, 118 ≤ j → j < i → s.badPattern j = false)
        ∧ (code = 6 → ∃ k, k < 8 ∧ i = 22 + 4 * k ∧ s.emptySet k = true
            ∧ ∀ j, j < k → s.emptySet j = false)
        ∧ (code ≠ 3 ∨ i ≠ 4 → (s.word 4).toNat ≤ 15)
        ∧ (code ≠ 1 → code ≠ 3 ∨ i ≠ 4 → (s.word 4).getLsbD s.ctl.strap.val = true)
        ∧ (3 < code ∨ code = 3 ∧ i ≠ 4 → 2 ≤ s.expected.length)
        ∧ (3 < code → ∀ j, (5 ≤ j ∧ j ≤ 53) ∨ (134 ≤ j ∧ j ≤ 148) → s.outOfRange j = false)
        ∧ (4 < code → ∀ j, 54 ≤ j ∧ j ≤ 117 → (s.word j).toNat ≤ 7)
        ∧ (5 < code → ∀ j, 118 ≤ j ∧ j ≤ 133 → s.badPattern j = false))
    ∧ (∀ i, s.badPattern i = true ↔ 8 < (s.word i).toNat / 256 ∨ 12 < (s.word i).toNat % 256
        ∨ (i = 118 ∧ s.word i ≠ 0x0800))
    ∧ (∀ k, s.emptySet k = true ↔
        ((∃ i, 54 ≤ i ∧ i ≤ 117 ∧ (s.word i).toNat = k) ∨ ∃ i, 118 ≤ i ∧ i ≤ 133 ∧ (s.word i).toNat / 256 = k)
        ∧ ∀ n : Station, (s.word 4).getLsbD n.val = true → (s.word (22 + 4 * k + n.val)).toNat = 0)
    ∧ (∀ r ∈ [(5, 1000, 20000), (6, 1, 15), (7, 0, 15), (8, 10, 250), (9, 50, 4000), (10, 20, 500), (12, 1, 8),
        (13, 1, 100), (14, 1, 500), (15, 0, 2000), (16, 1, 255), (17, 1, 255), (18, 50, 5000), (19, 10, 250),
        (20, 0, 2000), (21, 1, 250), (134, 500, 10000), (135, 500, 10000), (138, 256, 8192), (139, 40, 4000),
        (140, 0, 20000), (141, 0, 20000), (142, 1, 400), (143, 1, 800), (144, 1, 8), (145, 1, 8), (146, 20, 250),
        (147, 0, 2), (148, 20, 2000)],
      s.outOfRange r.1 = true ↔ (s.word r.1).toNat < r.2.1 ∨ r.2.2 < (s.word r.1).toNat)
    ∧ (∀ i, 22 ≤ i → i ≤ 53 → (s.outOfRange i = true ↔ 255 < (s.word i).toNat))
    ∧ (s.outOfRange 11 = true ↔ (s.word 10).toNat ≤ (s.word 11).toNat)
    ∧ (∀ i, i = 136 ∨ i = 137 → (s.outOfRange i = true ↔ (s.word i).toInt < -50 ∨ 50 < (s.word i).toInt))

/-- An accepted START: the store is locked with its digest over words 4..133, the table and the view are cleared, the
limits are held to the wheel peaks, the records and counters return, the state is LISTEN (R10, R39, R60, R99, R127,
R181). The period count in the cleared view is the model's choice (log 23), and the two bus fields `phase` and
`gapSeen` are its own (log 14). -/
def Obligations.AcceptedStartEntersListen : Prop :=
  ∀ (arg : Byte) (words : List Word) (s : State),
    s.active = true → s.ctl.state = .config → s.validate = none →
    let d := s.deliver (1 + words.length)
    let drive := min s.lp.driveLimit (min 20000 (s.word 140).toNat)
    let regen := min s.lp.regenLimit (min 20000 (s.word 141).toNat)
    exec (.start arg words) s = .next { d with
      ctl := { s.ctl with
        state := .listen, stopCause := .none, refusalCode := 0, refusalIndex := 0, listenCounter := 0 }
      ps := { words := s.ps.words, locked := true
              digest := some (checkCode ((List.range' 4 130).flatMap (fun i => wordBytes (s.word i)))) }
      lp := { d.lp with driveLimit := drive, regenLimit := regen }
      hou := { s.hou with lastTags := #v[0, 0, 0, 0], echoDue := [] }
      sbi := { s.sbi with
        interval := .one, service := 0, quiet := 0, wake := false, phase := .watching, gapSeen := false }
      pt := {
        entries := s.expectedPeers.map (fun n => ⟨n, none, .never⟩), disCounter := 0, disEstablished := false
        view := {
          period := s.periodCount
          entries := s.expectedPeers.map (fun n => ⟨n, .never, none⟩)
          demand := s.lp.demand, mode := s.lp.mode, driveLimit := drive, regenLimit := regen
          immediate := s.lp.immediate, demandAge := s.lp.demandAge
          participants := [s.ctl.strap], reserved := s.expectedPeers
          isolated := true, disagreement := false, mismatch := false } } }

/-- START refused in CONFIG writes the refusal record, raises PORT_FAULT and changes nothing else but the delivery of
its transaction (R9). START outside CONFIG (R16): no effect in LISTEN, RUN and STOPPING; from STOPPED to LISTEN with a
cleared table and view, the store, the digest and the limits kept; refused in STOPPED after a duplicate. The period
count in the cleared view is the model's choice (log 23). -/
def Obligations.StartRefusedOrOutsideConfig : Prop :=
  ∀ (arg : Byte) (words : List Word) (s : State), s.active = true →
    let d := s.deliver (1 + words.length)
    (∀ code index, s.ctl.state = .config → s.validate = some (code, index) →
      exec (.start arg words) s = .next { d with
        ctl := { s.ctl with refusalCode := code, refusalIndex := index }
        hu := { s.hu with flags := s.hu.flags ||| 0x0001#16 } })
    ∧ (s.ctl.state = .listen ∨ s.ctl.state = .run ∨ s.ctl.state = .stopping →
      exec (.start arg words) s = .next d)
    ∧ (s.ctl.state = .stopped → s.ctl.dupLatch = true →
      exec (.start arg words) s = .next { d with hu := { s.hu with flags := s.hu.flags ||| 0x0001#16 } })
    ∧ (s.ctl.state = .stopped → s.ctl.dupLatch = false → exec (.start arg words) s = .next { d with
        ctl := { s.ctl with
          state := .listen, stopCause := .none, refusalCode := 0, refusalIndex := 0, listenCounter := 0 }
        hou := { s.hou with lastTags := #v[0, 0, 0, 0], echoDue := [] }
        sbi := { s.sbi with interval := .one, service := 0, quiet := 0, wake := false }
        pt := {
          entries := s.expectedPeers.map (fun n => ⟨n, none, .never⟩), disCounter := 0, disEstablished := false
          view := {
            period := s.periodCount
            entries := s.expectedPeers.map (fun n => ⟨n, .never, none⟩)
            demand := s.lp.demand, mode := s.lp.mode
            driveLimit := s.lp.driveLimit, regenLimit := s.lp.regenLimit
            immediate := s.lp.immediate, demandAge := s.lp.demandAge
            participants := [s.ctl.strap], reserved := s.expectedPeers
            isolated := true, disagreement := false, mismatch := false } } })

/-- STOP by state (R12): refused in CONFIG, to STOPPED from LISTEN, to STOPPING from RUN with the record discarded and
the Due echoes returned to Seen (R133, R148), no effect in STOPPING and STOPPED. That the quiet counter is 0 at once
is the model's reading (log 30). -/
def Obligations.StopActsByState : Prop :=
  ∀ (arg : Byte) (words : List Word) (s : State), s.active = true →
    let d := s.deliver (1 + words.length)
    let b := { s.sbi with wake := false, quiet := 0, latch := { s.sbi.latch with error := true } }
    (s.ctl.state = .config →
      exec (.stop arg words) s = .next { d with hu := { s.hu with flags := s.hu.flags ||| 0x0001#16 } })
    ∧ (s.ctl.state = .listen → exec (.stop arg words) s = .next { d with
        ctl := { s.ctl with state := .stopped, stopCause := .host }, sbi := b })
    ∧ (s.ctl.state = .run → exec (.stop arg words) s = .next { d with
        ctl := { s.ctl with state := .stopping, stopCause := .host }
        sbi := b
        hou := { s.hou with
          record := none
          report := if s.hou.record = none then s.hou.report else .cancelled
          echoDue := s.hou.echoDue.map (fun e => ⟨e.originator, e.tag, .seen⟩) } })
    ∧ (s.ctl.state = .stopping ∨ s.ctl.state = .stopped → exec (.stop arg words) s = .next d)

/-- The only moves of the life cycle, each with the command that makes it (R5, R10 to R13, R15, R16). -/
def Obligations.LifeCycleMoves : Prop :=
  ∀ (c : Instr) (s t : State), exec c s = .next t →
    t.ctl.state = s.ctl.state
    ∨ (t.ctl.state = .config ∧ (supplyEvent c = true ∨ ∃ arg words, c = .resetStation arg words))
    ∨ ((s.ctl.state = .config ∧ s.validate = none ∨ s.ctl.state = .stopped ∧ s.ctl.dupLatch = false)
        ∧ t.ctl.state = .listen ∧ ∃ arg words, c = .start arg words)
    ∨ (s.ctl.state = .listen ∧ t.ctl.state = .stopped ∧ ∃ arg words, c = .stop arg words)
    ∨ (s.ctl.state = .run ∧ t.ctl.state = .stopping ∧ ∃ arg words, c = .stop arg words)
    ∨ ((s.ctl.state = .listen ∨ s.ctl.state = .run) ∧ t.ctl.state = .stopping ∧ t.ctl.dupLatch = true
        ∧ s.ctl.dupLatch = false ∧ ∃ bytes, c = .frameReceived bytes)
    ∨ (s.ctl.state = .listen ∧ t.ctl.state = .run ∧ c = .commandShaping)
    ∨ (s.ctl.state = .stopping ∧ t.ctl.state = .stopped ∧ t.csh.command = 0 ∧ c = .commandShaping)

/-! ## The local port (R169 to R186) -/

/-- A transaction of the local port sends the reply formed before it, word for word, then 0; a command that forms no
reply leaves the buffer empty (R170, R171). While bit n of the transaction is taken, SDO drives that bit of these
words, bit 15 of each word first. `sdo` is the model's record of the words sent (log 12). -/
def Obligations.ReplyIsSentDuringTheNextTransaction : Prop :=
  ∀ (ws : List Word) (s : State), s.active = true → s.lp.wordsTaken = 0 →
    ∃ t : State, exec (decodeTransaction ws) s = .next t
      ∧ t.lp.sdo = (List.range ws.length).map (fun k => s.lp.reply.getD k 0)
      ∧ (∀ k j, k < ws.length → j < 16 → s.lp.sdoAt (16 * k + j) = (t.lp.sdo.getD k 0).getLsbD (15 - j))
      ∧ (∀ n, 16 * s.lp.reply.length ≤ n → s.lp.sdoAt n = false)
      ∧ ((∀ w rest, ws = w :: rest → commandCode w ∉ [0x03#8, 0x30#8, 0x31#8, 0x32#8, 0x33#8]) → t.lp.reply = [])

/-- The words of a local port transaction are decoded to the command they were encoded from, and so are its bits, with
up to 15 bits after the last whole word (R170, R201). The command word has the code in bits 15..8 and the argument in
bits 7..0; each command has the code its rule gives (R173, R174, R176 to R178, R180, R182, R184 to R186), any other
code is unknown, and a transaction without a whole word is incomplete. The bits on SDI are counted into words of
sixteen, bit 15 first, and those after the last whole word are discarded. -/
def Obligations.TransactionRoundTrip : Prop :=
  (∀ (c : Instr) (ws : List Word) (beyond : List Bool), c.wellFormed = true → encodeTransaction c = some ws →
    decodeTransaction ws = c ∧ (beyond.length < 16 → decodeBits (ws.flatMap wordBits ++ beyond) = c))
  ∧ (∀ (arg : Byte) (words : List Word),
    let taken (code : Byte) : Instr := decodeTransaction (commandWord code arg :: words)
    taken 0x01 = .setWindow arg words ∧ taken 0x02 = .writeWords arg words ∧ taken 0x03 = .readWords arg words
    ∧ taken 0x10 = .start arg words ∧ taken 0x11 = .stop arg words ∧ taken 0x1F = .resetStation arg words
    ∧ taken 0x20 = .setDemand arg words ∧ taken 0x21 = .setLimits arg words
    ∧ taken 0x30 = .readStatus arg words ∧ taken 0x31 = .readSnapshot arg words
    ∧ taken 0x32 = .readPeer arg words ∧ taken 0x33 = .readDiag arg words
    ∧ ∀ code, code ∉ [0x01#8, 0x02#8, 0x03#8, 0x10#8, 0x11#8, 0x1F#8, 0x20#8, 0x21#8, 0x30#8, 0x31#8, 0x32#8, 0x33#8] →
      taken code = .unknownCommand code arg words)
  ∧ decodeTransaction [] = .incompleteTransaction
  ∧ (∀ (code arg : Byte) (j : Nat), j < 8 →
    (commandWord code arg).getLsbD (8 + j) = code.getLsbD j ∧ (commandWord code arg).getLsbD j = arg.getLsbD j)
  ∧ (∀ bits : List Bool, (transactionWords bits).length = bits.length / 16
    ∧ ∀ (k : Nat) (w : Word) (j : Nat), (transactionWords bits)[k]? = some w → j < 16 →
      bits[16 * k + j]? = some (w.getLsbD (15 - j)))

/-- SET_WINDOW, code 01h, in every state: a window with last below first or above 148 is refused and leaves window and
cursor as they were, any other becomes the window with the cursor at first; no reply is formed (R173). Its transaction
delivers the reply before it, as every transaction does. -/
def Obligations.SetWindowSetsWindowAndCursor : Prop :=
  ∀ (arg : Byte) (first last : Word) (rest : List Word) (s : State), s.active = true →
    let d := s.deliver (3 + rest.length)
    d.lp.reply = []
    ∧ (last.toNat < first.toNat ∨ 148 < last.toNat →
      exec (decodeTransaction (commandWord 0x01 arg :: first :: last :: rest)) s
        = .next { d with hu := { s.hu with flags := s.hu.flags ||| 0x0001#16 } })
    ∧ (first.toNat ≤ last.toNat → last.toNat ≤ 148 →
      exec (decodeTransaction (commandWord 0x01 arg :: first :: last :: rest)) s
        = .next { d with lp := { d.lp with first := first.toNat, last := last.toNat, cursor := first.toNat } })

/-- One parameter word of a WRITE_WORDS: in CONFIG, while its count is not used up, it is passed over at an index
0..3, written at an index up to the window's last, and counted as overrun past the end; otherwise it is not acted on
(R174, R175). The end of the transaction then acts on the words that are left, as if none had been acted on before.
`wordsTaken` and `overrun` are the model's record of the transaction's progress (log 13). -/
def Obligations.ParameterWordActsAtTheCursor : Prop :=
  ∀ (count : Byte) (w : Word) (s : State), s.active = true →
    (s.ctl.state = .config → s.lp.wordsTaken < count.toNat → s.lp.cursor ≤ 3 → s.lp.cursor ≤ s.lp.last →
      exec (.parameterWordTaken count w) s = .next { s with
        lp := { s.lp with cursor := s.lp.cursor + 1, wordsTaken := s.lp.wordsTaken + 1 } })
    ∧ (s.ctl.state = .config → s.lp.wordsTaken < count.toNat → 4 ≤ s.lp.cursor → s.lp.cursor ≤ s.lp.last →
        s.lp.last ≤ 148 → ∃ t : State, exec (.parameterWordTaken count w) s = .next t
        ∧ (∀ i, t.word i = if i = s.lp.cursor then w else s.word i)
        ∧ t.ps.locked = s.ps.locked ∧ t.ps.digest = s.ps.digest
        ∧ t = { s with
            ps := t.ps, lp := { s.lp with cursor := s.lp.cursor + 1, wordsTaken := s.lp.wordsTaken + 1 } })
    ∧ (s.ctl.state = .config → s.lp.wordsTaken < count.toNat → s.lp.last < s.lp.cursor →
      exec (.parameterWordTaken count w) s = .next { s with
        hu := { s.hu with storeOverrun := min 65535 (s.hu.storeOverrun + 1) }
        lp := { s.lp with overrun := true, wordsTaken := s.lp.wordsTaken + 1 } })
    ∧ (s.ctl.state ≠ .config ∨ count.toNat ≤ s.lp.wordsTaken →
      exec (.parameterWordTaken count w) s = .next { s with
        lp := { s.lp with wordsTaken := s.lp.wordsTaken + 1 } })
    ∧ (∀ words t, words[s.lp.wordsTaken]? = some w → exec (.parameterWordTaken count w) s = .next t →
      exec (.writeWords count words) t = exec (.writeWords count words) s)

/-- A whole WRITE_WORDS in CONFIG: of its first n words, word k lands at cursor + k where that index lies in 4..last,
no other word of the store changes, the cursor stops past the end, each word past the end is counted, and PORT_FAULT
is raised where words lack or went past the end (R172, R174, R194). -/
def Obligations.WriteWordsStoresItsWords : Prop :=
  ∀ (count : Byte) (words : List Word) (s : State), s.active = true → s.ctl.state = .config →
    s.lp.wordsTaken = 0 → s.lp.overrun = false → s.lp.cursor ≤ s.lp.last + 1 → s.lp.last ≤ 148 →
    s.hu.storeOverrun ≤ 65535 →
    let m := min count.toNat words.length
    let past := s.lp.cursor + m - (s.lp.last + 1)
    ∃ t : State, exec (.writeWords count words) s = .next t
      ∧ (∀ i, t.word i = if 4 ≤ i ∧ s.lp.cursor ≤ i ∧ i < s.lp.cursor + m ∧ i ≤ s.lp.last
          then words.getD (i - s.lp.cursor) 0 else s.word i)
      ∧ t.ps.locked = s.ps.locked ∧ t.ps.digest = s.ps.digest
      ∧ t = { s with
          ps := t.ps
          lp := { (s.deliver (1 + words.length)).lp with cursor := min (s.lp.cursor + m) (s.lp.last + 1) }
          hu := { s.hu with
            storeOverrun := min 65535 (s.hu.storeOverrun + past)
            flags := if words.length < count.toNat ∨ 0 < past then s.hu.flags ||| 0x0001#16 else s.hu.flags } }

/-- The store words 4..148 change only by WRITE_WORDS in CONFIG (its words, or their end) and by the defaults at a
power-on reset or an RSTn release; words 0, 1 and 3 never change and word 2 is the strap number, which changes at the
two samples only (R2, R8, R175, R187). -/
def Obligations.StoreChangesOnlyByItsWriters : Prop :=
  ∀ (c : Instr) (s t : State), exec c s = .next t →
    t.word 0 = 0x0430 ∧ t.word 1 = 1 ∧ t.word 2 = BitVec.ofNat 16 t.ctl.strap.val ∧ t.word 3 = 1
    ∧ ((∃ i, 4 ≤ i ∧ t.word i ≠ s.word i) →
        (s.ctl.state = .config
          ∧ ((∃ count words, c = .writeWords count words) ∨ ∃ count w, c = .parameterWordTaken count w))
        ∨ ∃ stn1 stn0, c = .powerOnReset stn1 stn0 ∨ c = .rstnRelease stn1 stn0)
    ∧ (t.ctl.strap ≠ s.ctl.strap → ∃ stn1 stn0, c = .powerOnReset stn1 stn0 ∨ c = .rstnRelease stn1 stn0)

/-- READ_WORDS, code 03h, in every state: n words from the cursor on, 0 past the end of the window; the cursor moves
with them and stops past the end, where a WRITE_WORDS also leaves it; nothing is raised or counted; words 0..3 read
their identity values (R176). -/
def Obligations.ReadWordsReadsFromTheCursor : Prop :=
  ∀ (count : Byte) (rest : List Word) (s : State), s.active = true → s.lp.cursor ≤ s.lp.last + 1 →
    let d := s.deliver (1 + rest.length)
    exec (decodeTransaction (commandWord 0x03 count :: rest)) s = .next { d with lp := { d.lp with
      reply := (List.range count.toNat).map
        (fun k => if s.lp.cursor + k ≤ s.lp.last then s.word (s.lp.cursor + k) else 0)
      cursor := if s.lp.cursor + count.toNat ≤ s.lp.last then s.lp.cursor + count.toNat else s.lp.last + 1 } }
    ∧ s.word 0 = 0x0430 ∧ s.word 1 = 1 ∧ s.word 2 = BitVec.ofNat 16 s.ctl.strap.val ∧ s.word 3 = 1

/-- SET_DEMAND, code 20h: the demand held within ±D_max (word 5 held to 1000..20000), the mode, age 0; the hold is
reported; a mode above 3 or a missing word is refused (R172, R178). -/
def Obligations.SetDemandStoresTheHeldDemand : Prop :=
  ∀ (mode : Byte) (words : List Word) (s : State), s.active = true →
    let d := s.deliver (1 + words.length)
    let dMax : Int := (max 1000 (min 20000 (s.word 5).toNat) : Nat)
    (3 < mode.toNat ∨ words = [] → exec (.setDemand mode words) s
      = .next { d with hu := { s.hu with flags := s.hu.flags ||| 0x0001#16 } })
    ∧ (∀ (m : Mode) (w : Word) (rest : List Word), m.code = mode.toNat → words = w :: rest →
        exec (.setDemand mode words) s = .next { d with
          lp := { d.lp with
            mode := m, demandAge := 0
            demand := if w.toInt < -dMax then -dMax else if dMax < w.toInt then dMax else w.toInt }
          hu := { s.hu with flags :=
            if w.toInt < -dMax ∨ dMax < w.toInt then s.hu.flags ||| 0x0004#16 else s.hu.flags } })

/-- SET_LIMITS, code 21h: both limits held within 0 and their wheel peaks (words 140 and 141 held to 0..20000), the
immediate flag; LIMIT_CLAMPED once; any other argument or a missing word is refused (R172, R180). -/
def Obligations.SetLimitsStoresTheHeldLimits : Prop :=
  ∀ (immediate : Byte) (words : List Word) (s : State), s.active = true →
    let d := s.deliver (1 + words.length)
    let drivePeak : Int := (min 20000 (s.word 140).toNat : Nat)
    let regenPeak : Int := (min 20000 (s.word 141).toNat : Nat)
    (1 < immediate.toNat ∨ words.length < 2 → exec (.setLimits immediate words) s
      = .next { d with hu := { s.hu with flags := s.hu.flags ||| 0x0001#16 } })
    ∧ (∀ (x y : Word) (rest : List Word), immediate.toNat ≤ 1 → words = x :: y :: rest →
        ∃ drive regen : Nat,
          (drive : Int) = max 0 (min drivePeak x.toInt) ∧ (regen : Int) = max 0 (min regenPeak y.toInt)
          ∧ exec (.setLimits immediate words) s = .next { d with
              lp := { d.lp with
                driveLimit := drive, regenLimit := regen, immediate := decide (immediate.toNat = 1) }
              hu := { s.hu with flags :=
                if (drive : Int) ≠ x.toInt ∨ (regen : Int) ≠ y.toInt then s.hu.flags ||| 0x0002#16
                else s.hu.flags } })

/-- READ_STATUS, code 30h: two words, whose fields are the state, the basis (NORMAL outside RUN), the stop cause, the
refusal code, the quiet bit and the handover state, and the first offending index; nothing is cleared (R17, R182,
R201). The codes of states, bases, stop causes and handover states are those of 11_formats.md. -/
def Obligations.ReadStatusReportsItsFields : Prop :=
  ∀ (arg : Byte) (words : List Word) (s : State), s.active = true → s.ctl.refusalCode ≤ 6 →
    let d := s.deliver (1 + words.length)
    ∃ w : Word, exec (.readStatus arg words) s
        = .next { d with lp := { d.lp with reply := [w, BitVec.ofNat 16 s.ctl.refusalIndex] } }
      ∧ w.toNat / 8192 = s.ctl.state.code
      ∧ w.toNat / 2048 % 4 = (if s.ctl.state = .run then s.ale.selection.basis.code else 0)
      ∧ w.toNat / 512 % 4 = s.ctl.stopCause.code
      ∧ w.toNat / 64 % 8 = s.ctl.refusalCode
      ∧ w.toNat / 32 % 2 = (if s.sbi.interval = .sixteen then 1 else 0)
      ∧ w.toNat / 4 % 8 = s.hou.report.code ∧ w.toNat % 4 = 0
      ∧ [LifeState.config, .listen, .run, .stopping, .stopped].map LifeState.code = [0, 1, 2, 3, 4]
      ∧ [Basis.normal, .fallback, .isolated].map Basis.code = [0, 1, 2]
      ∧ [StopCause.none, .host, .duplicate].map StopCause.code = [0, 1, 2]
      ∧ [HoReport.none, .opened, .completed, .cancelled, .expired].map HoReport.code = [0, 1, 2, 3, 4]

/-- READ_SNAPSHOT, code 31h: the sixteen words of the copy as it stands, then their check code; nothing is cleared
(R184, R201). READ_DIAG, code 33h: the flags and the five counters are copied into the reply and cleared; PMK, the
health latch and every other part of the state stand (R186, R193, R196). -/
def Obligations.ReadSnapshotAndReadDiag : Prop :=
  ∀ (arg : Byte) (words : List Word) (s : State), s.active = true →
    let d := s.deliver (1 + words.length)
    (∃ reply : List Word, exec (.readSnapshot arg words) s = .next { d with lp := { d.lp with reply := reply } }
      ∧ reply.length = 17 ∧ (∀ k : Fin 16, reply.getD k.val 0 = s.lp.snapshot[k])
      ∧ reply.getD 16 0 = checkCode (s.lp.snapshot.toList.flatMap wordBytes))
    ∧ exec (.readDiag arg words) s = .next { d with
      lp := { d.lp with reply := s.hu.flags
        :: [s.hu.frameReject, s.hu.txOverwrite, s.hu.txErrors, s.hu.missed, s.hu.storeOverrun].map (BitVec.ofNat 16) }
      hu := { flags := 0, frameReject := 0, txOverwrite := 0, txErrors := 0, missed := 0, storeOverrun := 0
              pmk := s.hu.pmk, pmkLeft := s.hu.pmkLeft } }

/-- READ_PEER, code 32h: fourteen words of 0 where the table has no entry of that number, class NEVER where the entry
holds no record, else the record as it stands with its class judged by R45 (R59, R185, R201). The frame bytes are
those of the record's fields (log 24). -/
def Obligations.ReadPeerReportsTheRecord : Prop :=
  ∀ (number : Byte) (words : List Word) (s : State), s.active = true →
    let d := s.deliver (1 + words.length)
    let entry := s.pt.entries.find? (fun e => e.station.val == number.toNat)
    let fresh := max 1 (min 15 (s.word 6).toNat)
    let grace := min 15 (s.word 7).toNat
    (entry = none → exec (.readPeer number words) s
      = .next { d with lp := { d.lp with reply := List.replicate 14 0 } })
    ∧ (∀ e, entry = some e → e.record = none → exec (.readPeer number words) s
      = .next { d with lp := { d.lp with reply := 0x4000#16 :: List.replicate 13 0 } })
    ∧ (∀ e r, entry = some e → e.record = some r →
        ∃ reply : List Word, exec (.readPeer number words) s = .next { d with lp := { d.lp with reply := reply } }
        ∧ reply.length = 14
        ∧ (let periods := if r.frame.interval = .one then 1 else 16
           let cls := if r.age ≤ fresh * periods then 1 else if r.age ≤ (fresh + grace) * periods then 2 else 3
           reply.getD 0 0 = BitVec.ofNat 16 (cls * 4096 + if r.digest.isSome then 2048 else 0))
        ∧ reply.getD 1 0 = BitVec.ofNat 16 r.age ∧ reply.getD 2 0 = BitVec.ofNat 16 r.missed
        ∧ reply.getD 3 0 = r.digest.getD 0
        ∧ (∀ k, k < 8 → reply.getD (4 + k) 0
            = pairWord (r.frame.bytes.getD (2 * k) 0) (r.frame.bytes.getD (2 * k + 1) 0))
        ∧ reply.getD 12 0 = pairWord ((r.frame.echoes.map EchoEntry.byte).getD 0 0)
            ((r.frame.echoes.map EchoEntry.byte).getD 1 0)
        ∧ reply.getD 13 0 = pairWord ((r.frame.echoes.map EchoEntry.byte).getD 2 0) 0)

/-- A code that names no command, a command that lacks parameter words, and a WRITE_WORDS outside CONFIG, raises
PORT_FAULT and does nothing else; a transaction without a whole command word does nothing at all but deliver and empty
the reply (R170, R172, R175). -/
def Obligations.BadTransactionsRaisePortFault : Prop :=
  ∀ (code arg : Byte) (words : List Word) (s : State), s.active = true →
    let d := s.deliver (1 + words.length)
    let refused := Host.Outcome.next { d with hu := { s.hu with flags := s.hu.flags ||| 0x0001#16 } }
    (code ∉ commandCodes → exec (decodeTransaction (commandWord code arg :: words)) s = refused)
    ∧ (code = 0x01 ∨ code = 0x21 → words.length < 2 →
        exec (decodeTransaction (commandWord code arg :: words)) s = refused)
    ∧ (code = 0x20 → words = [] → exec (decodeTransaction (commandWord code arg :: words)) s = refused)
    ∧ (code = 0x02 → s.ctl.state ≠ .config → s.lp.wordsTaken ≤ words.length →
        exec (decodeTransaction (commandWord code arg :: words)) s = refused)
    ∧ exec (decodeTransaction []) s = .next { s with
        lp := { s.lp with sdo := [], reply := [], wordsTaken := 0, overrun := false } }

/-! ## Wheels, the timer expiry, the blocked bus (R24, R62 to R73, R179) -/

/-- WHEEL_PULSE: the count advances, the wheel's timestamp, interval, pulse count, expired mark, silent timer and
silent condition follow the pulse, and nothing else changes; the other wheel's history stands (R62, R69). `elapsed` is
the model's way to advance the 1 µs count (log 1). -/
def Obligations.WheelPulseUpdatesItsWheel : Prop :=
  ∀ (wheel : Wheel) (elapsed : BitVec 32) (s : State), s.active = true →
    let now := s.wsu.usCount + elapsed
    let w := if wheel = .wheel0 then s.wsu.wheel0 else s.wsu.wheel1
    ∃ delta : Option Nat,
      (w.lastTime = none → delta = w.delta)
      ∧ (∀ p, w.lastTime = some p → w.expired = true → delta = some 250001)
      ∧ (∀ p, w.lastTime = some p → w.expired = false →
          delta = some (if now = p then 1 else if 250000 < (now - p).toNat then 250001 else (now - p).toNat))
      ∧ (let w' : WheelHistory := { lastTime := some now, delta := delta, pulses := min 255 (w.pulses + 1)
                                    expired := false, silentTimer := 0, silent := false }
         exec (.wheelPulse wheel elapsed) s = .next { s with wsu := { s.wsu with
           usCount := now
           wheel0 := if wheel = .wheel0 then w' else s.wsu.wheel0
           wheel1 := if wheel = .wheel0 then s.wsu.wheel1 else w' } })

/-- PERIOD_TIMER_EXPIRY: the period count and the demand age grow, the WSU's publication is outstanding, the blocked
bus watch counts to 10 and raises BUS_BLOCKED there with an error for the latch, the silent timers grow and the
expired marks are set after 250000 µs, the inverter line is idle again; the last timestamp, interval and pulse count
of each wheel stand, and nothing else changes but the silent conditions, the windows and the sample, whose values
SampledSpeedsSilentWheelsAndFilter gives (R24, R62, R63, R165, R179). `elapsed` is the model's way to advance the 1 µs
count (log 1). When the period count advances (log 9) and that a wheel without a pulse gets no expired mark (log 31)
are the model's readings; that the expiry supersedes a computation still under way (log 4) and that the line is idle
from here on (log 25) are its choices. -/
def Obligations.TimerExpiryBeginsThePeriod : Prop :=
  ∀ (elapsed : BitVec 32) (s : State), s.active = true →
    let now := s.wsu.usCount + elapsed
    let idle := if s.sbi.slot.isSome = true ∧ s.sbi.gapSeen = false then min 10 (s.sbi.idleWatch + 1) else 0
    ∃ t : State, exec (.periodTimerExpiry elapsed) s = .next t
      ∧ t = { s with
          periodCount := s.periodCount + 1, stage := .sample, wsu := t.wsu, hu := { s.hu with flags := t.hu.flags }
          icl := { s.icl with line := none }
          lp := { s.lp with demandAge := min 255 (s.lp.demandAge + 1) }
          sbi := { s.sbi with idleWatch := idle, gapSeen := false, latch := t.sbi.latch } }
      ∧ t.wsu.usCount = now
      ∧ t.wsu.wheel0 = { s.wsu.wheel0 with
          expired := t.wsu.wheel0.expired, silentTimer := min 2000 (s.wsu.wheel0.silentTimer + 1)
          silent := t.wsu.wheel0.silent }
      ∧ t.wsu.wheel1 = { s.wsu.wheel1 with
          expired := t.wsu.wheel1.expired, silentTimer := min 2000 (s.wsu.wheel1.silentTimer + 1)
          silent := t.wsu.wheel1.silent }
      ∧ (t.wsu.wheel0.expired = true ↔
          s.wsu.wheel0.expired = true ∨ ∃ p, s.wsu.wheel0.lastTime = some p ∧ 250000 < (now - p).toNat)
      ∧ (t.wsu.wheel1.expired = true ↔
          s.wsu.wheel1.expired = true ∨ ∃ p, s.wsu.wheel1.lastTime = some p ∧ 250000 < (now - p).toNat)
      ∧ (let blocked := if idle = 10 then 0x0400#16 else 0
         let silent := if t.wsu.sample.silent0 = true ∨ t.wsu.sample.silent1 = true then 0x0008#16 else 0
         t.hu.flags = s.hu.flags ||| blocked ||| silent)
      ∧ t.sbi.latch.error = (s.sbi.latch.error || decide (idle = 10))
      ∧ t.sbi.latch.warning = (s.sbi.latch.warning || t.wsu.sample.silent0 || t.wsu.sample.silent1)

/-- A sample (R63 to R72). The speed of each wheel: 0 below two pulses and after 250000 µs without one, else its pulse
distance over the greater of Δ and e, held at 8191, trimmed by its trim and clamped to 4095. The silent conditions and
the filter: a condition that stands goes on standing; one that does not is established where its timer is at the
wheel-silent time, the other wheel turns above 4 km/h, and the same does not hold of the other wheel, nor any
condition stand; the axle speed leaves a silent wheel out; both windows keep their eight newest entries and the
outputs are floors of means. `elapsed` is the model's way to advance the 1 µs count (log 1). -/
def Obligations.SampledSpeedsSilentWheelsAndFilter : Prop :=
  ∀ (elapsed : BitVec 32) (s t : State), s.active = true → exec (.periodTimerExpiry elapsed) s = .next t →
    let speedIs (w : WheelHistory) (distWord trimWord : Word) (speed : Nat) : Prop :=
      let dist := max 500 (min 10000 distWord.toNat)
      let trim : Int := max (-50) (min 50 trimWord.toInt)
      (w.pulses < 2 ∨ w.expired = true → speed = 0)
      ∧ (∀ p, w.lastTime = some p → 250000 < (s.wsu.usCount + elapsed - p).toNat → speed = 0)
      ∧ (∀ p delta, w.lastTime = some p → w.delta = some delta → 2 ≤ w.pulses → w.expired = false →
          (s.wsu.usCount + elapsed - p).toNat ≤ 250000 →
          let e := max 1 (s.wsu.usCount + elapsed - p).toNat
          let v := min 8191 (dist * 576 / max delta e)
          (speed : Int) = min 4095 ((v : Int) * (1000 + trim) / 1000))
    let time := max 20 (min 2000 (s.word 148).toNat)
    let v0 := t.wsu.sample.speed0
    let v1 := t.wsu.sample.speed1
    let due0 := time ≤ t.wsu.wheel0.silentTimer ∧ 64 < v1
    let due1 := time ≤ t.wsu.wheel1.silentTimer ∧ 64 < v0
    let nA := max 1 (min 8 (s.word 144).toNat)
    let nB := max 1 (min 8 (s.word 145).toNat)
    (t.wsu.wheel0.silent = true ↔
      s.wsu.wheel0.silent = true ∨ (due0 ∧ ¬due1 ∧ s.wsu.wheel1.silent = false))
    ∧ (t.wsu.wheel1.silent = true ↔
      s.wsu.wheel1.silent = true ∨ (due1 ∧ ¬due0 ∧ s.wsu.wheel0.silent = false))
    ∧ t.wsu.sample.silent0 = t.wsu.wheel0.silent ∧ t.wsu.sample.silent1 = t.wsu.wheel1.silent
    ∧ t.wsu.sample.axle = (if t.wsu.wheel0.silent = true then v1 else if t.wsu.wheel1.silent = true then v0
        else (v0 + v1) / 2)
    ∧ (∃ dropped, s.wsu.windowA ++ [t.wsu.sample.axle] = dropped ++ t.wsu.windowA)
    ∧ t.wsu.windowA.length = min 8 (s.wsu.windowA.length + 1)
    ∧ (∃ outA older newest droppedB,
        t.wsu.windowA = older ++ newest ∧ newest.length = min nA t.wsu.windowA.length
        ∧ outA = newest.sum / newest.length
        ∧ s.wsu.windowB ++ [outA] = droppedB ++ t.wsu.windowB)
    ∧ t.wsu.windowB.length = min 8 (s.wsu.windowB.length + 1)
    ∧ (∃ older newest, t.wsu.windowB = older ++ newest ∧ newest.length = min nB t.wsu.windowB.length
        ∧ t.wsu.sample.filtered = newest.sum / newest.length)
    ∧ speedIs s.wsu.wheel0 (s.word 134) (s.word 136) t.wsu.sample.speed0
    ∧ speedIs s.wsu.wheel1 (s.word 135) (s.word 137) t.wsu.sample.speed1

/-! ## The peer table and the view (R44 to R58) -/

/-- VIEW_LATCH outside CONFIG: every record ages by one, each entry gets the class of its age and interval, the view
copies entries and local inputs, and its participants, reserved peers and isolation are those of the classes (R44 to
R53). In CONFIG only the local inputs are copied: the view has no entry and no mark is set (R50). -/
def Obligations.ViewLatchAgesAndCopies : Prop :=
  ∀ s : State, s.active = true → s.stage = .sample →
    let fresh := max 1 (min 15 (s.word 6).toNat)
    let grace := min 15 (s.word 7).toNat
    (s.ctl.state ≠ .config → ∃ t : State, exec .viewLatch s = .next t
      ∧ t = { s with
          pt := t.pt, hou := t.hou, stage := .view, hu := { s.hu with flags := t.hu.flags }
          sbi := { s.sbi with latch := t.sbi.latch } }
      ∧ t.sbi.latch.error = s.sbi.latch.error
      ∧ t.pt.entries = s.pt.entries.map (fun e => match e.record with
          | none => ⟨e.station, none, .never⟩
          | some r =>
            let age := min 4095 (r.age + 1)
            let periods := if r.frame.interval = .one then 1 else 16
            ⟨e.station, some { r with age := age },
              if age ≤ fresh * periods then .fresh else if age ≤ (fresh + grace) * periods then .grace else .lost⟩)
      ∧ t.pt.view.entries = t.pt.entries.map (fun e => ⟨e.station, e.prevClass, e.record⟩)
      ∧ (∀ n, n ∈ t.pt.view.participants ↔ n = s.ctl.strap
          ∨ ∃ e ∈ t.pt.view.entries, e.station = n ∧ (e.cls = .fresh ∨ e.cls = .grace))
      ∧ (∀ n, n ∈ t.pt.view.reserved ↔
          ∃ e ∈ t.pt.view.entries, e.station = n ∧ (e.cls = .lost ∨ e.cls = .never))
      ∧ (t.pt.view.isolated = true ↔
          t.pt.view.entries ≠ [] ∧ ∀ e ∈ t.pt.view.entries, e.cls = .lost ∨ e.cls = .never)
      ∧ t.pt.view.period = s.periodCount ∧ t.pt.view.demand = s.lp.demand ∧ t.pt.view.mode = s.lp.mode
      ∧ t.pt.view.driveLimit = s.lp.driveLimit ∧ t.pt.view.regenLimit = s.lp.regenLimit
      ∧ t.pt.view.immediate = s.lp.immediate ∧ t.pt.view.demandAge = s.lp.demandAge)
    ∧ (s.ctl.state = .config → s.pt.entries = [] → exec .viewLatch s = .next { s with
      stage := .view
      pt := { s.pt with view := {
        period := s.periodCount, entries := [], demand := s.lp.demand, mode := s.lp.mode
        driveLimit := s.lp.driveLimit, regenLimit := s.lp.regenLimit, immediate := s.lp.immediate
        demandAge := s.lp.demandAge, participants := [], reserved := [], isolated := false
        disagreement := false, mismatch := false } } })

/-- The two checks on the view just latched (R54 to R57): the disagreement counter and its establishment with
DEMAND_SPLIT, and in RUN the digest mismatch with DIGEST_MISMATCH. -/
def Obligations.ViewLatchChecksDemandsAndDigests : Prop :=
  ∀ s t : State, s.active = true → s.stage = .sample → s.ctl.state ≠ .config → exec .viewLatch s = .next t →
    let tDis := max 1 (min 250 (s.word 21).toNat)
    let own : Int := if max 20 (min 250 (s.word 146).toNat) < s.lp.demandAge then 0 else s.lp.demand
    let differs : Prop := ∃ e ∈ t.pt.view.entries, (e.cls = .fresh ∨ e.cls = .grace)
      ∧ ∃ r, e.record = some r ∧ min 2000 (s.word 20).toNat < (own - r.frame.demand).natAbs
    let mismatch : Prop := s.ctl.state = .run
      ∧ ∃ e ∈ t.pt.view.entries, (e.cls = .fresh ∨ e.cls = .grace)
        ∧ ∃ r d, e.record = some r ∧ r.digest = some d ∧ s.ps.digest ≠ some d
    (differs → t.pt.disCounter = min tDis (s.pt.disCounter + 1))
    ∧ (¬differs → t.pt.disCounter = 0)
    ∧ (t.pt.view.disagreement = true ↔ differs ∧ tDis ≤ s.pt.disCounter + 1)
    ∧ t.pt.disEstablished = t.pt.view.disagreement
    ∧ (t.pt.view.mismatch = true ↔ mismatch)
    ∧ t.hu.flags.getLsbD 7 = (s.hu.flags.getLsbD 7 || t.pt.view.disagreement)
    ∧ (t.pt.view.disagreement = true → t.sbi.latch.warning = true)
    ∧ t.hu.flags.getLsbD 8 = (s.hu.flags.getLsbD 8 || t.pt.view.mismatch)

/-- A peer that passes from FRESH or GRACE to LOST at a latch raises PEER_LOST, loses its echo-due entry and is
Excused in an open record; a record left with no Awaiting and no Absorbed entry closes Expired with HANDOVER_EXPIRED
(R47, R144, R148). The flags after the latch are exactly those before it with PEER_LOST, DEMAND_SPLIT, DIGEST_MISMATCH
and HANDOVER_EXPIRED where each is found, and the latch takes a warning for all of these but DIGEST_MISMATCH (R29, R55,
R57). The rest of the Handover Unit stands. -/
def Obligations.LossOfAPeer : Prop :=
  ∀ s t : State, s.active = true → s.stage = .sample → s.ctl.state ≠ .config → exec .viewLatch s = .next t →
    let lost (n : Station) : Prop := ∃ e ∈ s.pt.entries, e.station = n ∧ (e.prevClass = .fresh ∨ e.prevClass = .grace)
      ∧ ∃ r, e.record = some r ∧ (max 1 (min 15 (s.word 6).toNat) + min 15 (s.word 7).toNat)
          * (if r.frame.interval = .one then 1 else 16) < min 4095 (r.age + 1)
    let expired : Prop := (∃ n, lost n) ∧ ∃ r, s.hou.record = some r ∧ ∀ p ∈ r.peers, lost p.1 ∨ p.2 = .excused
    t.hou = { s.hou with record := t.hou.record, report := t.hou.report, echoDue := t.hou.echoDue }
    ∧ (∀ k, t.hu.flags.getLsbD k = true ↔ s.hu.flags.getLsbD k = true
      ∨ (k = 9 ∧ ∃ n, lost n) ∨ (k = 7 ∧ t.pt.view.disagreement = true)
      ∨ (k = 8 ∧ t.pt.view.mismatch = true) ∨ (k = 5 ∧ expired))
    ∧ (t.sbi.latch.warning = true ↔
        s.sbi.latch.warning = true ∨ (∃ n, lost n) ∨ t.pt.view.disagreement = true ∨ expired)
    ∧ (∀ e, e ∈ t.hou.echoDue ↔ e ∈ s.hou.echoDue ∧ ¬lost e.originator)
    ∧ (s.hou.record = none → t.hou.record = none ∧ t.hou.report = s.hou.report)
    ∧ ((¬∃ n, lost n) → t.hou = s.hou)
    ∧ (∀ r, s.hou.record = some r → (∃ n, lost n) →
        ((∀ p ∈ r.peers, lost p.1 ∨ p.2 = .excused) → t.hou.record = none ∧ t.hou.report = .expired
            ∧ t.hu.flags.getLsbD 5 = true)
        ∧ ((∃ p ∈ r.peers, ¬lost p.1 ∧ p.2 ≠ .excused) → ∃ r', t.hou.record = some r'
            ∧ r' = { r with peers := r'.peers } ∧ t.hou.report = s.hou.report
            ∧ r'.peers.length = r.peers.length
            ∧ ∀ (k : Nat) (p : Station × HoPeer), r.peers[k]? = some p →
                ∃ p' : Station × HoPeer, r'.peers[k]? = some p' ∧ p'.1 = p.1
                ∧ (lost p.1 → p'.2 = .excused) ∧ (¬lost p.1 → p'.2 = p.2)))

/-! ## The Slip Unit (R74 to R86) -/

/-- SLIP_EVALUATION takes the demand sign, moves the reference and forms the ratio, and touches nothing but the SLU
(R74 to R78). With a positive or zero sign the reference is the greatest value at or below every participant's speed
and at most A_up above the last; with a negative sign the least at or above them and at most A_down below. The slip
flag follows the ratio with hysteresis, from clear after a change of sign (R79, R80). -/
def Obligations.SlipEvaluationMovesReferenceAndFlag : Prop :=
  ∀ s : State, s.active = true → s.stage = .view →
    let own : Int := if max 20 (min 250 (s.word 146).toNat) < s.pt.view.demandAge then 0 else s.pt.view.demand
    let peer (r : PeerRecord) : Prop :=
      ∃ e ∈ s.pt.view.entries, (e.cls = .fresh ∨ e.cls = .grace) ∧ e.record = some r
    let up := s.slu.reference + max 1 (min 255 (s.word 16).toNat)
    let down := s.slu.reference - max 1 (min 255 (s.word 17).toNat)
    let sOn : Int := (max 20 (min 500 (s.word 10).toNat) : Nat)
    let sHys : Int := min (sOn - 1) (s.word 11).toNat
    let before (g : Sign) : Bool := s.slu.flag && decide (g = s.slu.sign)
    let speed := s.wsu.sample.filtered
    ∃ t : State, exec .slipEvaluation s = .next t ∧ t = { s with slu := t.slu, stage := .slip }
      ∧ (s.pt.view.disagreement = false →
          (t.slu.sign = .positive ↔ 0 < own) ∧ (t.slu.sign = .negative ↔ own < 0))
      ∧ (s.pt.view.disagreement = true →
          (t.slu.sign = .positive ↔ 0 < own ∧ ∀ r, peer r → 0 < r.frame.demand)
          ∧ (t.slu.sign = .negative ↔ own < 0 ∧ ∀ r, peer r → r.frame.demand < 0))
      ∧ (t.slu.sign ≠ .negative →
          t.slu.reference ≤ 16 * speed ∧ t.slu.reference ≤ up
          ∧ (∀ r, peer r → t.slu.reference ≤ 16 * r.frame.axleSpeed)
          ∧ (t.slu.reference = 16 * speed ∨ t.slu.reference = up
              ∨ ∃ r, peer r ∧ t.slu.reference = 16 * r.frame.axleSpeed))
      ∧ (t.slu.sign = .negative →
          16 * speed ≤ t.slu.reference ∧ down ≤ t.slu.reference
          ∧ (∀ r, peer r → 16 * r.frame.axleSpeed ≤ t.slu.reference)
          ∧ (t.slu.reference = 16 * speed ∨ t.slu.reference = down
              ∨ ∃ r, peer r ∧ t.slu.reference = 16 * r.frame.axleSpeed))
      ∧ t.slu.ratio = max (-1000) (min 1000
          (Int.tdiv (((16 * speed : Nat) - (t.slu.reference : Int)) * 1000) (max t.slu.reference 512 : Nat)))
      ∧ (t.slu.sign = .zero → t.slu.flag = false)
      ∧ (t.slu.sign = .positive →
          (sOn ≤ t.slu.ratio → t.slu.flag = true) ∧ (t.slu.ratio < sOn - sHys → t.slu.flag = false)
          ∧ (sOn - sHys ≤ t.slu.ratio → t.slu.ratio < sOn → t.slu.flag = (before t.slu.sign)))
      ∧ (t.slu.sign = .negative →
          (t.slu.ratio ≤ -sOn → t.slu.flag = true) ∧ (-(sOn - sHys) < t.slu.ratio → t.slu.flag = false)
          ∧ (-sOn < t.slu.ratio → t.slu.ratio ≤ -(sOn - sHys) → t.slu.flag = (before t.slu.sign)))

/-- The traction limit at an evaluation (R81 to R85): a rising edge cuts, a lasting flag holds and cuts again at
H_slip, a clear flag lets TL recover until it reaches the unlimited capacity from below or the wheel peak, and in NONE
TL is the unlimited capacity; a change of sign starts from NONE with the hold counter at 0. That a rising edge in NONE
cuts from this view's unlimited capacity (log 19) and that the wheel peak ends a recovery also below the unlimited
capacity (log 20) are the model's readings. -/
def Obligations.TractionLimitCutsHoldsAndRecovers : Prop :=
  ∀ s t : State, s.active = true → s.stage = .view → exec .slipEvaluation s = .next t →
    let v := s.pt.view
    let unlimited := if t.slu.sign = .positive then v.driveLimit else if t.slu.sign = .negative then v.regenLimit
      else max v.driveLimit v.regenLimit
    let peak := if t.slu.sign = .negative then min 20000 (s.word 141).toNat else min 20000 (s.word 140).toNat
    let same := t.slu.sign = s.slu.sign
    let st : TlState := if same then s.slu.tlState else .none
    let tl := if st = .none then unlimited else s.slu.tl
    let rising := t.slu.flag = true ∧ ¬(same ∧ s.slu.flag = true)
    let cutOf (x : Nat) : Nat := max (min 2000 (s.word 15).toNat) (x * (16 - max 1 (min 8 (s.word 12).toNat)) / 16)
    let grown := tl + max 1 (min 500 (s.word 14).toNat)
    (¬same → t.slu.hold = 0)
    ∧ (rising → t.slu.tlState = .cut ∧ t.slu.tl = cutOf (min tl s.csh.applied.natAbs) ∧ t.slu.hold = 0
        ∧ t.slu.cutMark = true)
    ∧ (¬rising → st = .none → t.slu.tlState = .none ∧ t.slu.tl = unlimited ∧ t.slu.cutMark = false)
    ∧ (¬rising → st = .cut → t.slu.flag = true → t.slu.tlState = .cut
        ∧ (s.slu.hold + 1 < max 1 (min 100 (s.word 13).toNat) →
            t.slu.hold = s.slu.hold + 1 ∧ t.slu.tl = tl ∧ t.slu.cutMark = false)
        ∧ (max 1 (min 100 (s.word 13).toNat) ≤ s.slu.hold + 1 →
            t.slu.hold = 0 ∧ t.slu.tl = cutOf tl ∧ t.slu.cutMark = true))
    ∧ (st ≠ .none → t.slu.flag = false → t.slu.cutMark = false
        ∧ ((tl < unlimited ∧ unlimited ≤ grown) ∨ peak ≤ grown →
            t.slu.tlState = .none ∧ t.slu.tl = unlimited)
        ∧ (¬((tl < unlimited ∧ unlimited ≤ grown) ∨ peak ≤ grown) →
            t.slu.tlState = .recover ∧ t.slu.tl = grown))

/-! ## The Handover Unit (R127 to R148) -/

/-- HANDOVER_STEP with no record open: a record opens exactly where all the conditions of the trigger hold, with the
fields of the opening; either way the step stores the limits and publishes, and touches nothing else (R129 to R132).
-/
def Obligations.HandoverOpensOnItsTrigger : Prop :=
  ∀ s : State, s.active = true → s.stage = .slip → s.hou.record = none →
    let v := s.pt.view
    let limits (a b : Nat) : Nat := if s.slu.sign = .positive then a else if s.slu.sign = .negative then b else max a b
    let applied := if Sign.ofInt s.csh.applied = s.slu.sign then s.csh.applied.natAbs else 0
    let target := min (limits v.driveLimit v.regenLimit) s.slu.tl
    let running := (v.entries.filter (fun e => (e.cls = .fresh || e.cls = .grace)
      && e.record.any (fun r => r.frame.state = .run))).map (fun e => e.station)
    let trigger : Prop := s.ctl.state = .run ∧ v.isolated = false ∧ s.slu.sign ≠ .zero
      ∧ (∃ a b, s.hou.prevLimits = some (a, b) ∧ limits v.driveLimit v.regenLimit < limits a b)
      ∧ target + max 50 (min 5000 (s.word 18).toNat) < applied ∧ v.immediate = false ∧ running ≠ []
    let tag : Tag := if s.hou.tagCounter = 15 then 1 else s.hou.tagCounter + 1
    (trigger → exec .handoverStep s = .next { s with stage := .hold, hou := { s.hou with
        tagCounter := tag, report := .opened
        prevLimits := some (v.driveLimit, v.regenLimit), published := some applied
        record := some { tag := tag, sign := s.slu.sign, origin := applied, target := target, lHo := applied
                         timer := 0, peers := running.map (fun n => (n, .awaiting)) } } })
    ∧ (¬trigger → exec .handoverStep s = .next { s with stage := .hold, hou := { s.hou with
        prevLimits := some (v.driveLimit, v.regenLimit), published := none } })

/-- HANDOVER_STEP with a record open (R133 to R140): a change of sign, the immediate flag, a restored limit, or a
retarget at or above L_ho cancels it; another changed limit retargets it with a new tag; then the timer, the expiry,
the descent by the Absorbed peers' rise steps, and the completion. -/
def Obligations.OpenRecordStep : Prop :=
  ∀ (s : State) (r : HoRecord), s.active = true → s.stage = .slip → s.hou.record = some r → r.sign ≠ .zero →
    let v := s.pt.view
    let limit := if r.sign = .positive then v.driveLimit else v.regenLimit
    let moved : Prop := ∃ a b, s.hou.prevLimits = some (a, b) ∧ limit ≠ (if r.sign = .positive then a else b)
    let newTarget := min limit s.slu.tl
    let cancelled : Prop := s.slu.sign ≠ r.sign ∨ v.immediate = true ∨ r.origin ≤ limit
      ∨ (moved ∧ r.lHo ≤ newTarget)
    let tHo := max 10 (min 250 (s.word 19).toNat)
    let frozen := { s.hou with prevLimits := some (v.driveLimit, v.regenLimit), published := none, record := none }
    (cancelled → exec .handoverStep s = .next { s with stage := .hold, hou := { frozen with report := .cancelled } })
    ∧ (¬cancelled → ∃ target tag peers,
        (moved → target = newTarget ∧ tag = (if s.hou.tagCounter = 15 then 1 else s.hou.tagCounter + 1)
          ∧ peers = r.peers.map (fun p => if p.2 = .excused then p else (p.1, .awaiting)))
        ∧ (¬moved → target = r.target ∧ tag = r.tag ∧ peers = r.peers)
        ∧ (let counter := if s.hou.tagCounter = 15 then 1 else s.hou.tagCounter + 1
           ∃ c : Tag, (moved → c = counter) ∧ (¬moved → c = s.hou.tagCounter)
            ∧ (tHo ≤ r.timer + 1 → exec .handoverStep s = .next { s with
                stage := .hold, hou := { frozen with tagCounter := c, report := .expired }
                hu := { s.hu with flags := s.hu.flags ||| 0x0020#16 }
                sbi := { s.sbi with latch := { s.sbi.latch with warning := true } } })
            ∧ (r.timer + 1 < tHo →
                let rise := (peers.map (fun p => if p.2 = .absorbed
                  then ((v.recordOf p.1).map (fun q => q.frame.riseStep)).getD 0 else 0)).sum
                let lHo := max target (r.lHo - 4 * rise)
                (lHo = target → (∀ p ∈ peers, p.2 ≠ .awaiting) → exec .handoverStep s = .next { s with
                  stage := .hold, hou := { frozen with tagCounter := c, report := .completed } })
                ∧ (lHo ≠ target ∨ (∃ p ∈ peers, p.2 = .awaiting) → exec .handoverStep s = .next { s with
                  stage := .hold
                  hou := { frozen with
                    tagCounter := c, published := some lHo
                    record := some { r with
                      tag := tag, target := target, peers := peers, timer := r.timer + 1, lHo := lHo } } }))))

/-- An open record is that of a station in RUN, has the sign of a demand, target ≤ L_ho ≤ from, a timer below T_ho and
a tag above 0: every step keeps it so (R128, R129, R138, R139). -/
def Obligations.OpenRecordStaysInBounds : Prop :=
  ∀ s t : State, s.handoverInv → step s = .next t → t.handoverInv

/-- While a record stays open its hold level never rises, its timer never falls, and its sign and from stand (R128,
R139). -/
def Obligations.HoldLevelNeverRises : Prop :=
  ∀ (s t : State) (r r' : HoRecord), s.handoverInv → step s = .next t →
    s.hou.record = some r → t.hou.record = some r' →
    r'.lHo ≤ r.lHo ∧ r.timer ≤ r'.timer ∧ r'.sign = r.sign ∧ r'.origin = r.origin
      ∧ r'.peers.map (fun p => p.1) = r.peers.map (fun p => p.1)

/-! ## The Allocation Engine (R89 to R125) -/

/-- ALLOCATION_COMPUTATION outside RUN: nothing is shared, no table is consulted, the pattern is built from the view
and the sets are the view's; no flag is raised (R92, R105). -/
def Obligations.AllocationOutsideRun : Prop :=
  ∀ s : State, s.active = true → s.stage = .hold → s.ctl.state ≠ .run →
    ∃ pattern : Nat, pattern < 16
      ∧ (∀ n : Station, pattern.testBit n.val = true ↔
          if n = s.ctl.strap then s.slu.flag = true
          else ∃ e ∈ s.pt.view.entries, e.station = n ∧ (e.cls = .fresh ∨ e.cls = .grace)
            ∧ ∃ r, e.record = some r ∧ r.frame.slipFlag = true)
      ∧ exec .allocationComputation s = .next { s with
          stage := .share
          ale := {
            selection := { basis := .normal, pattern := pattern, band := 0, code := 0, trim := 0 }
            demand := 0, sign := .zero, aSelf := 0, aFree := none, shortfall := 0
            participants := s.pt.view.participants, reserved := s.pt.view.reserved, period := s.pt.view.period } }

/-- ALLOCATION_COMPUTATION in RUN: basis, pattern, band, weight-set code and trim, the demand used, and the marks of a
stale demand and a shortfall; the Seen echoes whose tag the view shows become Due (R146). -/
def Obligations.AllocationChoosesAndFormsTheDemand : Prop :=
  ∀ s : State, s.active = true → s.stage = .hold → s.ctl.state = .run →
    let v := s.pt.view
    let stale := max 20 (min 250 (s.word 146).toNat) < v.demandAge
    let own : Int := if stale then 0 else v.demand
    let peer (r : PeerRecord) : Prop := ∃ e ∈ v.entries, (e.cls = .fresh ∨ e.cls = .grace) ∧ e.record = some r
    let dMax : Int := (max 1000 (min 20000 (s.word 5).toNat) : Nat)
    ∃ (t : State) (used : Int), exec .allocationComputation s = .next t
      ∧ (let x := t.ale.selection
         x.basis = (if v.mismatch = true then .fallback else if v.isolated = true then .isolated else .normal)
         ∧ x.pattern < 16
         ∧ (∀ n : Station, x.pattern.testBit n.val = true ↔
            if n = s.ctl.strap then s.slu.flag = true
            else ∃ e ∈ v.entries, e.station = n ∧ (e.cls = .fresh ∨ e.cls = .grace)
              ∧ ∃ r, e.record = some r ∧ r.frame.slipFlag = true)
         ∧ (x.basis = .fallback → x.band = s.ale.selection.band ∧ x.code = 8 ∧ x.trim = 0)
         ∧ (x.basis ≠ .fallback →
            (∃ vMax, s.wsu.sample.filtered ≤ vMax ∧ (∀ r, peer r → r.frame.axleSpeed ≤ vMax)
              ∧ (vMax = s.wsu.sample.filtered ∨ ∃ r, peer r ∧ vMax = r.frame.axleSpeed)
              ∧ x.band = min 15 (vMax / 128))
            ∧ (let entry := (s.word (118 + x.pattern)).toNat
               x.trim = entry % 256
               ∧ x.code = if entry / 256 ≤ 7 then entry / 256
                  else (s.word (54 + 16 * v.mode.code + x.band)).toNat))
         ∧ (v.disagreement = false → used = own)
         ∧ (v.disagreement = true →
            (0 < own → (∀ r, peer r → 0 < r.frame.demand) → used ≤ own ∧ (∀ r, peer r → used ≤ r.frame.demand)
              ∧ (used = own ∨ ∃ r, peer r ∧ used = r.frame.demand))
            ∧ (own < 0 → (∀ r, peer r → r.frame.demand < 0) → own ≤ used ∧ (∀ r, peer r → r.frame.demand ≤ used)
              ∧ (used = own ∨ ∃ r, peer r ∧ used = r.frame.demand))
            ∧ (¬(0 < own ∧ ∀ r, peer r → 0 < r.frame.demand) → ¬(own < 0 ∧ ∀ r, peer r → r.frame.demand < 0) →
              used = 0))
         ∧ t.ale.demand = Int.tdiv (max (-dMax) (min dMax used) * (16 - x.trim)) 16)
      ∧ (t.ale.sign = .positive ↔ 0 < used) ∧ (t.ale.sign = .negative ↔ used < 0)
      ∧ t.ale.participants = v.participants ∧ t.ale.reserved = v.reserved ∧ t.ale.period = v.period
      ∧ t = { s with
          ale := t.ale, stage := .share
          hu := { s.hu with flags := s.hu.flags ||| (if stale then 0x0040#16 else 0)
            ||| (if 0 < t.ale.shortfall then 0x0010#16 else 0) }
          sbi := { s.sbi with latch := { s.sbi.latch with
            warning := s.sbi.latch.warning || decide (0 < t.ale.shortfall) } }
          hou := { s.hou with echoDue := s.hou.echoDue.map (fun e =>
            if (v.recordOf e.originator).any (fun r => r.frame.tag = e.tag) then ⟨e.originator, e.tag, .due⟩
            else e) } }

/-- The split law (R112, R113, R119 to R122): in RUN the shares of the participants, the reserves and the shortfall
make up the demand's magnitude exactly; each share lies within its station's capacity, and is 0 at weight 0. The
shares and the shortfall are those of the water-fill of the demand less the reserves over the participants, in
ascending station number, whose weight and capacity are above 0; the own share, with its sign, is the published one.
Where a hold level is published and the demand has a sign, the free share is the own share of a second water-fill with
the own capacity min(L_ho, TL), all else the same. That no second run is made for sign zero rests on R112. -/
def Obligations.SplitConservesTheDemand : Prop :=
  ∀ s : State, s.active = true → s.stage = .hold → s.ctl.state = .run → s.viewInv →
    ∃ (t : State) (share : Station → Nat), exec .allocationComputation s = .next t
      ∧ (let v := s.pt.view
         let g := t.ale.sign
         let d := t.ale.demand.natAbs
         let weight (n : Station) : Nat := if t.ale.selection.code = 8 then 1
           else (s.word (22 + 4 * t.ale.selection.code + n.val)).toNat
         let announced (n : Station) : Nat := ((v.recordOf n).map (fun r =>
           if g = .positive then r.frame.driveCapacity else if g = .negative then r.frame.regenCapacity
           else 0)).getD 0
         let ownLimit := if g = .positive then v.driveLimit else if g = .negative then v.regenLimit
           else max v.driveLimit v.regenLimit
         let capacity (own : Nat) (n : Station) : Nat := if n = s.ctl.strap then own else announced n
         let reserve (n : Station) : Nat := min (d * weight n / (s.expected.map weight).sum) (announced n)
         let sharesOf (own : Nat) : Split := waterFill
           ((v.participants.filter (fun n => decide (0 < weight n ∧ 0 < capacity own n))).map
             (fun n => ⟨n, weight n, capacity own n⟩))
           (d - (v.reserved.map reserve).sum)
         let shareIn (x : Split) (n : Station) : Nat :=
           ((x.shares.find? (fun p => decide (p.1 = n))).map (fun p => p.2)).getD 0
         let first := min ownLimit s.slu.tl
         (v.participants.map share).sum + (v.reserved.map reserve).sum + t.ale.shortfall = d
         ∧ (∀ n ∈ v.participants, share n ≤ capacity first n)
         ∧ (∀ n, weight n = 0 → share n = 0)
         ∧ t.ale.aSelf = g.apply (share s.ctl.strap)
         ∧ v.participants.Pairwise (fun a b => a < b)
         ∧ (0 < d → (∀ n, share n = shareIn (sharesOf first) n) ∧ t.ale.shortfall = (sharesOf first).shortfall)
         ∧ (d = 0 → (∀ n, share n = 0) ∧ t.ale.shortfall = 0)
         ∧ (t.ale.aFree = none ↔ s.hou.published = none ∨ g = .zero)
         ∧ (∀ l, s.hou.published = some l → g ≠ .zero → 0 < d →
             t.ale.aFree = some (g.apply (shareIn (sharesOf (min l s.slu.tl)) s.ctl.strap)))
         ∧ (∀ l, s.hou.published = some l → g ≠ .zero → d = 0 → t.ale.aFree = some 0)
         ∧ (∀ l f, s.hou.published = some l → t.ale.aFree = some f → f.natAbs ≤ min l s.slu.tl))

/-- The rounds of the water-fill (R115 to R118): a round in which members reach their capacities clamps all of them
and goes on with the rest; the last round gives each member its floor and one unit of the remainder to the first in
the list, which the split of ALLOCATION_COMPUTATION gives in ascending station number (SplitConservesTheDemand); an
empty active set leaves all of M as the shortfall. -/
def Obligations.WaterFillGoesByRounds : Prop :=
  ∀ (members : List Member) (m : Nat),
    let w := (members.map (fun i => i.weight)).sum
    let clamped := members.filter (fun i => i.capacity ≤ m * i.weight / w)
    let rest := members.filter (fun i => m * i.weight / w < i.capacity)
    let remainder := m - (members.map (fun i => m * i.weight / w)).sum
    (members = [] → waterFill members m = ⟨[], m⟩)
    ∧ (members ≠ [] → clamped = [] →
        (waterFill members m).shortfall = 0 ∧ (waterFill members m).shares.length = members.length
        ∧ ∀ k i, members[k]? = some i → (waterFill members m).shares[k]?
            = some (i.station, m * i.weight / w + if k < remainder then 1 else 0))
    ∧ (clamped ≠ [] →
        let next := waterFill rest (m - (clamped.map (fun i => i.capacity)).sum)
        waterFill members m
          = ⟨clamped.map (fun i => (i.station, i.capacity)) ++ next.shares, next.shortfall⟩)

/-! ## Command shaping and what its publication starts (R11, R13, R25 to R28, R35 to R38, R151 to R168, R183) -/

/-- A wheel torque becomes the nearest motor torque, ties away from zero (R153). A motor torque
becomes the nearest wheel torque, ties away from zero, held within ±20000 (R163). -/
def Obligations.ConversionsRoundToNearest : Prop :=
  ∀ (ratio : Nat) (x : Int), 0 < ratio →
    (2 * (x * 1024 - toMotor ratio x * ratio)).natAbs ≤ ratio
    ∧ ((2 * (x * 1024 - toMotor ratio x * ratio)).natAbs = ratio → x.natAbs * 1024 < (toMotor ratio x).natAbs * ratio)
    ∧ (x.natAbs * ratio ≤ 20000 * 1024 →
        (2 * (x * ratio - toWheel ratio x * 1024)).natAbs ≤ 1024
        ∧ ((2 * (x * ratio - toWheel ratio x * 1024)).natAbs = 1024 →
            x.natAbs * ratio < (toWheel ratio x).natAbs * 1024))
    ∧ (20000 * 1024 < x.natAbs * ratio → toWheel ratio x = (if 0 < x then 20000 else -20000))
    ∧ (toWheel ratio x).natAbs ≤ 20000

/-- COMMAND_SHAPING in RUN and STOPPING (R149, R154, R155, R156, R158, R160, R161, R163): the target, the peak mark,
the move toward the target by at most the rise or the fall step without passing it or 0, the traction-limit clamp
after it, and the outcome. That a clamp to 0 in STOPPING reports TL_CLAMPED is the model's reading (log 22). -/
def Obligations.CommandMovesTowardItsTarget : Prop :=
  ∀ s t : State, s.active = true → s.stage = .share → exec .commandShaping s = .next t →
    s.ctl.state = .run ∨ s.ctl.state = .stopping →
    let ratio := max 256 (min 8192 (s.word 138).toNat)
    let peak := max 40 (min 4000 (s.word 139).toNat)
    let rise := max 1 (min 400 (s.word 142).toNat)
    let fall := max 1 (min 800 (s.word 143).toNat)
    let bound := s.slu.tl * 1024 / ratio
    let m := s.csh.command
    let u := t.csh.target
    let torque : Int := match s.ale.aFree with
      | none => s.ale.aSelf
      | some f => s.ale.sign.apply (min (s.hou.published.getD f.natAbs) f.natAbs)
    (s.ctl.state = .stopping → u = 0 ∧ t.csh.peakMark = false)
    ∧ (s.ctl.state = .run → (toMotor ratio torque).natAbs ≤ peak → u = toMotor ratio torque ∧ t.csh.peakMark = false)
    ∧ (s.ctl.state = .run → peak < (toMotor ratio torque).natAbs → u.natAbs = peak
        ∧ Sign.ofInt u = Sign.ofInt (toMotor ratio torque) ∧ t.csh.peakMark = true)
    ∧ t.csh.command.natAbs ≤ bound
    ∧ (∃ x : Int,
        (u = m → x = m)
        ∧ (m < u → x = (if m < 0 then min (m + fall) (min u 0) else min (m + rise) u))
        ∧ (u < m → x = (if 0 < m then max (m - fall) (max u 0) else max (m - rise) u))
        ∧ (x.natAbs ≤ bound → t.csh.command = x
          ∧ (t.csh.outcome = .atTarget ↔ x = u)
          ∧ (t.csh.outcome = .riseLimited ↔ x ≠ u ∧ m.natAbs < x.natAbs)
          ∧ (t.csh.outcome = .zeroStop ↔ m ≠ 0 ∧ x = 0 ∧ u ≠ 0)
          ∧ (t.csh.outcome = .fallLimited ↔ x ≠ u ∧ x ≠ 0 ∧ x.natAbs < m.natAbs))
        ∧ (bound < x.natAbs → t.csh.command.natAbs = bound ∧ 0 ≤ t.csh.command * x ∧ t.csh.outcome = .tlClamped))
    ∧ t.csh.applied = toWheel ratio t.csh.command
    ∧ t.csh.cutMark = s.slu.cutMark

/-- COMMAND_SHAPING completes in every state (R11, R13, R152, R162, R164, R166, R167, R183, R197): the exit tests, the
command 0 at rest, the inverter frame with the state after the publication, the sixteen snapshot words (the capacities
by the state after it, 0 in CONFIG, LISTEN and STOPPED, R28), the PMK pulse; view, slip, handover, shares, wheels and
store stand. The codes of states, bases and outcomes are those of 11_formats.md. That `pmkLeft` is 2 is the model's
record of the pulse (log 26). That the publication after a START makes the exit test of LISTEN (log 34), that the
words 13 and 14 stand after a stop (logs 37 and 38), and that word 16 shows the sets of the computation after a START
taken since (log 39), are the model's choices. -/
def Obligations.PublicationReportsTheStateAfterIt : Prop :=
  ∀ s : State, s.active = true → s.stage = .share →
    ∃ t : State, exec .commandShaping s = .next t
      ∧ t = { s with
          stage := .none, ctl := t.ctl, csh := t.csh, sbi := t.sbi, icl := t.icl, hu := t.hu
          lp := { s.lp with snapshot := t.lp.snapshot } }
      ∧ (let n := s.ctl.listenCounter + 1
         let ready : Prop := (∀ e ∈ s.pt.view.entries, e.cls = .fresh ∧ ∃ r, e.record = some r ∧ r.digest ≠ none)
           ∨ max 10 (min 250 (s.word 8).toNat) ≤ n
         t.ctl = { s.ctl with
           state := t.ctl.state
           listenCounter := if s.ctl.state = .listen then n else s.ctl.listenCounter }
         ∧ (s.ctl.state = .listen → ready → t.ctl.state = .run)
         ∧ (s.ctl.state = .listen → ¬ready → t.ctl.state = .listen)
         ∧ (s.ctl.state = .stopping → t.csh.command = 0 → t.ctl.state = .stopped)
         ∧ (s.ctl.state = .stopping → t.csh.command ≠ 0 → t.ctl.state = .stopping)
         ∧ (s.ctl.state = .config ∨ s.ctl.state = .run ∨ s.ctl.state = .stopped → t.ctl.state = s.ctl.state))
      ∧ (s.ctl.state = .config ∨ s.ctl.state = .listen ∨ s.ctl.state = .stopped →
          t.csh = { command := 0, applied := 0, target := 0, outcome := .atTarget, peakMark := false
                    cutMark := s.slu.cutMark })
      ∧ t.icl.seq = s.icl.seq + 1
      ∧ (let enable : Byte := if t.ctl.state = .run ∨ t.ctl.state = .stopping then 1 else 0
         let body := [BitVec.ofNat 8 s.ctl.strap.val, BitVec.ofNat 8 t.ctl.state.code, s.icl.seq, enable]
           ++ wordBytes (BitVec.ofInt 16 t.csh.command)
         t.icl.line = some (body ++ wordBytes (checkCode body)))
      ∧ (let drive : Nat :=
           if t.ctl.state = .run then
             if s.slu.sign = .positive then min s.pt.view.driveLimit s.slu.tl else s.pt.view.driveLimit
           else if t.ctl.state = .stopping ∧ 0 < t.csh.applied then min s.pt.view.driveLimit t.csh.applied.natAbs
           else 0
         let regen : Nat :=
           if t.ctl.state = .run then
             if s.slu.sign = .negative then min s.pt.view.regenLimit s.slu.tl else s.pt.view.regenLimit
           else if t.ctl.state = .stopping ∧ t.csh.applied < 0 then min s.pt.view.regenLimit t.csh.applied.natAbs
           else 0
         t.lp.snapshot.toList = [s.periodCount,
          BitVec.ofNat 16 (t.ctl.state.code * 8192
            + (if t.ctl.state = .run then s.ale.selection.basis.code else 0) * 2048),
          BitVec.ofInt 16 s.ale.demand, BitVec.ofInt 16 s.ale.aSelf, BitVec.ofInt 16 t.csh.command,
          BitVec.ofInt 16 t.csh.applied, BitVec.ofNat 16 drive, BitVec.ofNat 16 regen,
          BitVec.ofNat 16 s.slu.tl, BitVec.ofNat 16 s.wsu.sample.filtered, BitVec.ofNat 16 (s.slu.reference / 16),
          BitVec.ofInt 16 s.slu.ratio,
          BitVec.ofNat 16 (s.ale.selection.pattern * 256 + s.ale.selection.code),
          (match s.hou.published with | none => 0xFFFF#16 | some l => BitVec.ofNat 16 l),
          BitVec.ofNat 16 s.ale.shortfall,
          BitVec.ofNat 16 (maskOf s.ale.participants * 4096 + maskOf s.ale.reserved * 256 + t.csh.outcome.code * 32
            + t.csh.peakMark.toNat * 16 + t.csh.cutMark.toNat * 8)])
      ∧ [LifeState.config, .listen, .run, .stopping, .stopped].map LifeState.code = [0, 1, 2, 3, 4]
      ∧ [Basis.normal, .fallback, .isolated].map Basis.code = [0, 1, 2]
      ∧ [ShapeOutcome.atTarget, .riseLimited, .fallLimited, .zeroStop, .tlClamped].map ShapeOutcome.code
        = [0, 1, 2, 3, 4]
      ∧ (∀ (l : List Station) (k : Station), l.Nodup → ((maskOf l).testBit k.val = true ↔ k ∈ l) ∧ maskOf l < 16)
      ∧ (1 ≤ (s.word 147).toNat → t.hu.pmk = true ∧ t.hu.pmkLeft = 2)
      ∧ ((s.word 147).toNat = 0 → t.hu.pmk = s.hu.pmk ∧ t.hu.pmkLeft = s.hu.pmkLeft)

/-- PMK_PULSE_END returns PMK low and changes nothing else (R198). -/
def Obligations.PulseEndReturnsPmkLow : Prop :=
  ∀ s : State, s.active = true →
    exec .pmkPulseEnd s = .next { s with hu := { s.hu with pmk := false, pmkLeft := 0 } }

/-- When a frame is built (R25): never in CONFIG nor after a duplicate; at a change of interval and on entering
STOPPED, with the service counter set to 0; at every publication at interval 1; at every sixteenth at interval 16. The
sequence counts the frames built, and a publication that builds none leaves the slot, the frame in flight, the latch,
the flags and the counters. That the entry into STOPPED always builds a frame is the model's reading (log 17).
-/
def Obligations.FramesAreBuiltOnSchedule : Prop :=
  ∀ s t : State, s.active = true → s.stage = .share → exec .commandShaping s = .next t →
    let changed : Prop := t.sbi.interval ≠ s.sbi.interval ∨ (t.ctl.state = .stopped ∧ s.ctl.state ≠ .stopped)
    let silent : Prop := s.ctl.state = .config ∨ s.ctl.dupLatch = true
    (silent → t.sbi.seq = s.sbi.seq ∧ t.sbi.slot = s.sbi.slot ∧ t.sbi.inFlight = s.sbi.inFlight
        ∧ t.sbi.latch = s.sbi.latch)
    ∧ (¬silent → changed → t.sbi.seq = s.sbi.seq + 1 ∧ t.sbi.service = 0)
    ∧ (¬silent → ¬changed → t.sbi.interval = .one → t.sbi.seq = s.sbi.seq + 1)
    ∧ (¬silent → ¬changed → t.sbi.interval = .sixteen → s.sbi.service + 1 < 16 →
        t.sbi.seq = s.sbi.seq ∧ t.sbi.service = s.sbi.service + 1 ∧ t.sbi.slot = s.sbi.slot
        ∧ t.sbi.latch = s.sbi.latch)
    ∧ (¬silent → ¬changed → t.sbi.interval = .sixteen → 16 ≤ s.sbi.service + 1 →
        t.sbi.seq = s.sbi.seq + 1 ∧ t.sbi.service = 0)
    ∧ (t.sbi.seq = s.sbi.seq →
        t.sbi = { s.sbi with
          interval := t.sbi.interval, service := t.sbi.service, quiet := t.sbi.quiet, wake := t.sbi.wake }
        ∧ t.hu = { s.hu with pmk := t.hu.pmk, pmkLeft := t.hu.pmkLeft })

/-- The interval, the quiet counter and the wake request at a publication (R35 to R38). The request is cleared by a wake
in RUN and at every change of state, and stands at every other publication. -/
def Obligations.QuietOperation : Prop :=
  ∀ s t : State, s.active = true → s.stage = .share → exec .commandShaping s = .next t →
    let q := max 50 (min 4000 (s.word 9).toNat)
    let own : Int := if max 20 (min 250 (s.word 146).toNat) < s.pt.view.demandAge then 0 else s.pt.view.demand
    let awake : Prop := own ≠ 0 ∨ s.wsu.sample.filtered ≠ 0
    let still : Prop := ¬awake ∧ ∀ e ∈ s.pt.view.entries, e.cls = .fresh → ∀ r, e.record = some r →
      r.frame.demand = 0 ∧ r.frame.axleSpeed = 0
    (s.ctl.state = .run → s.sbi.interval = .sixteen → awake ∨ s.sbi.wake = true →
        t.sbi.interval = .one ∧ t.sbi.quiet = 0 ∧ t.sbi.wake = false)
    ∧ (s.ctl.state = .run → s.sbi.interval = .sixteen → ¬awake → s.sbi.wake = false →
        t.sbi.interval = .sixteen ∧ t.sbi.wake = false ∧ (still → t.sbi.quiet = min q (s.sbi.quiet + 1))
        ∧ (¬still → t.sbi.quiet = 0))
    ∧ (s.ctl.state = .run → s.sbi.interval = .one → s.sbi.wake = true →
        t.sbi.interval = .one ∧ t.sbi.quiet = 0 ∧ t.sbi.wake = false)
    ∧ (s.ctl.state = .run → s.sbi.interval = .one → s.sbi.wake = false → still →
        t.sbi.quiet = min q (s.sbi.quiet + 1)
        ∧ t.sbi.interval = (if q ≤ s.sbi.quiet + 1 then .sixteen else .one))
    ∧ (s.ctl.state = .run → s.sbi.interval = .one → s.sbi.wake = false → ¬still →
        t.sbi.quiet = 0 ∧ t.sbi.interval = .one)
    ∧ (s.ctl.state ≠ .run → t.sbi.quiet = 0
        ∧ t.sbi.interval = (if t.ctl.state = .stopped then .sixteen else .one))
    ∧ (t.ctl.state ≠ s.ctl.state → t.sbi.wake = false)
    ∧ (s.ctl.state = .run → t.sbi.wake = false)
    ∧ (s.ctl.state ≠ .run → t.ctl.state = s.ctl.state → t.sbi.wake = s.sbi.wake)

/-- What a built frame carries and where it goes (R20, R21, R26 to R29, R147): the values of the publication that
built it, the state after it, the health latch, which it empties, and the echoes that are Due and still shown by their
originators. On an idle bus with no frame in flight it starts at once, else it takes the slot; a frame it displaces
there gives its health field on, and raises and counts TX_OVERWRITE. That the state after the publication decides on
the extension is the model's reading (log 27); that the first frame after a START can announce RUN is its choice (log
34). -/
def Obligations.BuiltFrameCarriesThePublication : Prop :=
  ∀ s t : State, s.active = true → s.stage = .share →
    exec .commandShaping s = .next t → t.sbi.seq = s.sbi.seq + 1 →
    let starts : Prop := s.sbi.phase = .idle ∧ s.sbi.inFlight = none
    t.sbi.latch = HealthClasses.empty
    ∧ t.sbi = { s.sbi with
        seq := s.sbi.seq + 1, latch := HealthClasses.empty, slot := t.sbi.slot, inFlight := t.sbi.inFlight
        phase := t.sbi.phase, interval := t.sbi.interval, service := t.sbi.service, quiet := t.sbi.quiet
        wake := t.sbi.wake }
    ∧ (s.sbi.slot = none → t.hu = { s.hu with pmk := t.hu.pmk, pmkLeft := t.hu.pmkLeft })
    ∧ (s.sbi.slot ≠ none → t.hu = { s.hu with
        flags := s.hu.flags ||| 0x1000#16, txOverwrite := min 65535 (s.hu.txOverwrite + 1)
        pmk := t.hu.pmk, pmkLeft := t.hu.pmkLeft })
    ∧ ∃ f : ShareFrame,
      (starts → t.sbi.slot = none ∧ t.sbi.inFlight = some f ∧ t.sbi.phase = .driving)
      ∧ (¬starts → t.sbi.slot = some f ∧ t.sbi.inFlight = s.sbi.inFlight ∧ t.sbi.phase = s.sbi.phase)
      ∧ (s.sbi.slot = none → f.health = s.sbi.latch)
      ∧ (∀ old, s.sbi.slot = some old → f.health
          = ⟨s.sbi.latch.error || old.health.error, s.sbi.latch.warning || old.health.warning⟩)
      ∧ f.sender = s.ctl.strap ∧ f.seq = s.sbi.seq ∧ f.state = t.ctl.state
      ∧ f.basis = (if t.ctl.state = .run then s.ale.selection.basis else .normal)
      ∧ f.interval = t.sbi.interval ∧ f.mode = s.pt.view.mode ∧ f.slipFlag = s.slu.flag
      ∧ f.tag = (match s.hou.record with | none => 0 | some r => r.tag)
      ∧ f.demand = (if max 20 (min 250 (s.word 146).toNat) < s.pt.view.demandAge then 0 else s.pt.view.demand)
      ∧ f.applied = t.csh.applied ∧ (f.driveCapacity, f.regenCapacity) = t.capacities
      ∧ (t.ctl.state = .listen ∨ t.ctl.state = .stopped → f.driveCapacity = 0 ∧ f.regenCapacity = 0)
      ∧ (t.ctl.state = .run →
          f.driveCapacity = (if s.slu.sign = .positive then min s.pt.view.driveLimit s.slu.tl else s.pt.view.driveLimit)
          ∧ f.regenCapacity
            = (if s.slu.sign = .negative then min s.pt.view.regenLimit s.slu.tl else s.pt.view.regenLimit))
      ∧ (t.ctl.state = .stopping →
          f.driveCapacity = (if 0 < f.applied then min s.pt.view.driveLimit f.applied.natAbs else 0)
          ∧ f.regenCapacity = (if f.applied < 0 then min s.pt.view.regenLimit f.applied.natAbs else 0))
      ∧ f.axleSpeed = s.wsu.sample.filtered
      ∧ f.riseStep = min 255
          (max 1 (min 400 (s.word 142).toNat) * max 256 (min 8192 (s.word 138).toNat) / 1024 / 4)
      ∧ (t.ctl.state = .listen ∨ s.sbi.seq.toNat % 16 = 0 → ∀ d, s.ps.digest = some d → f.digest = some d)
      ∧ (¬(t.ctl.state = .listen ∨ s.sbi.seq.toNat % 16 = 0) → f.digest = none)
      ∧ f.echoes.Pairwise (fun a b => a.originator < b.originator)
      ∧ (s.hou.echoDue.Pairwise (fun a b => a.originator ≠ b.originator) →
          ∀ n tag, ⟨n, tag⟩ ∈ f.echoes ↔ ⟨n, tag, .due⟩ ∈ s.hou.echoDue
            ∧ ∃ r, s.pt.recordOf n = some r ∧ r.frame.tag = tag)

/-- The ICL's sequence is the number of the next inverter frame: the frame of a publication takes it and it grows by
one modulo 256, a reset sets it to 0, and nothing else changes it (R167). That it is 0 already at the fall of RSTn and
at the loss of supply is the model's reading (log 6). On the line (R165): idle high; each byte a low start bit, its
data bits from bit 0 up, a high stop bit, ten bit times to the byte with none between; high again after the last byte.
-/
def Obligations.InverterSequenceNumbersItsFrames : Prop :=
  ∀ (c : Instr) (s t : State), exec c s = .next t →
    (c = .commandShaping → s.active = true → s.stage = .share →
      t.icl.seq = s.icl.seq + 1 ∧ ∃ bytes, t.icl.line = some bytes ∧ bytes[2]? = some s.icl.seq)
    ∧ (c = .rstnAssert ∨ c = .supplyOrClockInvalid ∨ (∃ stn1 stn0, c = .powerOnReset stn1 stn0)
        ∨ (∃ stn1 stn0, c = .rstnRelease stn1 stn0 ∧ s.supplyValid = true)
        ∨ (∃ arg words, c = .resetStation arg words ∧ s.active = true) → t.icl.seq = 0)
    ∧ (t.icl.seq ≠ s.icl.seq → c = .commandShaping ∨ supplyEvent c = true ∨ ∃ arg words, c = .resetStation arg words)
    ∧ (t.icl.line = none → ∀ n, t.icl.levelAt n = true)
    ∧ (∀ bytes, t.icl.line = some bytes →
        (∀ k b, bytes[k]? = some b → t.icl.levelAt (10 * k) = false ∧ t.icl.levelAt (10 * k + 9) = true
          ∧ ∀ j, j < 8 → t.icl.levelAt (10 * k + 1 + j) = b.getLsbD j)
        ∧ ∀ n, 10 * bytes.length ≤ n → t.icl.levelAt n = true)

/-- A stage event whose publication is not outstanding changes nothing: the model's reading of the order of the
computation (log 3). -/
def Obligations.StagesWaitForTheirPublication : Prop :=
  ∀ (c : Instr) (awaited : Stage) (s : State),
    (c, awaited) ∈ [(.viewLatch, .sample), (.slipEvaluation, .view), (.handoverStep, .slip),
      (.allocationComputation, .hold), (.commandShaping, .share)] →
    (s.stage ≠ awaited → exec c s = .next s)
    ∧ (s.active = true → s.stage = awaited → ∃ t : State, exec c s = .next t
        ∧ t.stage = (match awaited with
          | .sample => .view | .view => .slip | .slip => .hold | .hold => .share | _ => .none))

/-! ## The share bus (R18 to R34) -/

/-- INTERFRAME_GAP and FIRST_START_BIT_AFTER_GAP: a gap is noted and starts the frame in the slot where none is in
flight; another station's start bit keeps the slot waiting; in CONFIG both, and every frame, are ignored (R19, R21,
R24, R30). `phase`, `gapSeen` and `completing` are the model's record of what the SBI knows of the bus (log 14). -/
def Obligations.GapStartsTheFrameInTheSlot : Prop :=
  ∀ s : State, s.active = true →
    (s.ctl.state = .config → exec .interframeGap s = .next s ∧ exec .firstStartBitAfterGap s = .next s
      ∧ ∀ bytes, exec (.frameReceived bytes) s = .next s)
    ∧ (s.ctl.state ≠ .config →
      (∀ f, s.sbi.inFlight = some f →
        exec .interframeGap s = .next { s with sbi := { s.sbi with gapSeen := true } }
        ∧ exec .firstStartBitAfterGap s = .next { s with sbi := { s.sbi with completing := none } })
      ∧ (s.sbi.inFlight = none →
        (s.sbi.slot = none → exec .interframeGap s
          = .next { s with sbi := { s.sbi with gapSeen := true, phase := .idle } })
        ∧ (∀ f, s.sbi.slot = some f → exec .interframeGap s = .next { s with sbi := { s.sbi with
            gapSeen := true, phase := .driving, slot := none, inFlight := some f } })
        ∧ exec .firstStartBitAfterGap s
          = .next { s with sbi := { s.sbi with completing := none, phase := .collecting } }))

/-- A built frame starts at once where the bus has been idle for a gap and no frame is in flight, and waits in the
slot otherwise; in the slot it displaces an older frame, which is reported and gives its health field on (R20, R21).
-/
def Obligations.BuiltFrameEntersTheSlot : Prop :=
  ∀ (f : ShareFrame) (s : State),
    (s.sbi.slot = none → s.putInSlot f = { s with sbi := { s.sbi with slot := some f } })
    ∧ (∀ old, s.sbi.slot = some old → s.putInSlot f = { s with
        sbi := { s.sbi with slot := some { f with
          health := ⟨f.health.error || old.health.error, f.health.warning || old.health.warning⟩ } }
        hu := { s.hu with
          flags := s.hu.flags ||| 0x1000#16, txOverwrite := min 65535 (s.hu.txOverwrite + 1) } })
    ∧ (s.buildFrame.sbi.seq = s.sbi.seq + 1 ∧ s.buildFrame.sbi.latch = HealthClasses.empty
        ∧ (s.sbi.phase = .idle → s.sbi.inFlight = none → s.buildFrame.sbi.slot = none
            ∧ s.buildFrame.sbi.inFlight.isSome = true)
        ∧ (s.sbi.phase ≠ .idle ∨ s.sbi.inFlight ≠ none → s.buildFrame.sbi.slot.isSome = true
            ∧ s.buildFrame.sbi.inFlight = s.sbi.inFlight))

/-- CONTENTION_LOST: the frame returns to an empty slot without any report; a newer frame in the slot displaces it,
with the report and the combining of a replacement (R21). After a duplicate stop it is dropped (log 15), and with no
frame in flight both events change nothing (log 33): the model's readings. TX_ERROR: the frame in flight is abandoned
and not retried, the slot is not touched, TX_ERROR is raised and counted, and an error and the frame's health field go
into the latch (R23). -/
def Obligations.LostContentionAndTransmitErrors : Prop :=
  ∀ (s : State), s.active = true →
    (s.sbi.inFlight = none → exec .contentionLost s = .next s)
    ∧ (∀ f, s.sbi.inFlight = some f →
      let b := { s.sbi with inFlight := none, phase := BusPhase.collecting }
      (s.ctl.dupLatch = true → exec .contentionLost s = .next { s with sbi := b })
      ∧ (s.ctl.dupLatch = false → s.sbi.slot = none →
          exec .contentionLost s = .next { s with sbi := { b with slot := some f } })
      ∧ (∀ newer, s.ctl.dupLatch = false → s.sbi.slot = some newer → exec .contentionLost s = .next { s with
          sbi := { b with slot := some { newer with
            health := ⟨newer.health.error || f.health.error, newer.health.warning || f.health.warning⟩ } }
          hu := { s.hu with
            flags := s.hu.flags ||| 0x1000#16, txOverwrite := min 65535 (s.hu.txOverwrite + 1) } }))
    ∧ (s.sbi.inFlight = none → exec .txError s = .next s)
    ∧ (∀ f, s.sbi.inFlight = some f → exec .txError s = .next { s with
        sbi := { s.sbi with
          inFlight := none, phase := .collecting
          latch := ⟨true, s.sbi.latch.warning || f.health.warning⟩ }
        hu := { s.hu with flags := s.hu.flags ||| 0x0800#16, txErrors := min 65535 (s.hu.txErrors + 1) } })

/-- A frame in flight that is complete leaves no frame in flight; a frame in the slot waits for the gap that follows;
the station's own receiver recognises the complete frame and does not process it (R22, R30). -/
def Obligations.OwnFrameCompletesAndIsRecognised : Prop :=
  ∀ (f : ShareFrame) (s : State), s.active = true → s.ctl.state ≠ .config → s.sbi.inFlight = some f →
    ∃ t u : State, exec .frameTxComplete s = .next t ∧ exec (.frameReceived f.bytes) t = .next u
      ∧ t.sbi.inFlight = none ∧ t.sbi.slot = s.sbi.slot
      ∧ u = { s with sbi := { s.sbi with
          inFlight := none, completing := u.sbi.completing, phase := u.sbi.phase } }
      ∧ ∀ g, s.sbi.slot = some g → ∃ v : State, exec .interframeGap u = .next v
          ∧ v.sbi.inFlight = some g ∧ v.sbi.slot = none

/-- Frames that fail the tests of R31: a wrong length, a bad check code, or a field outside its defined set rejects
the frame with FRAME_REJECT, its counter and a warning; a sender outside the mask raises UNEXPECTED only. No record
and no echo is touched. Which frames count as the own one, `isOwnFrame`, is the model's choice where a gap comes first
(log 40). -/
def Obligations.BadFramesAreRejected : Prop :=
  ∀ (bytes : List Byte) (s : State), s.active = true → s.ctl.state ≠ .config → s.sbi.isOwnFrame bytes = false →
    let b (k : Nat) : Nat := (bytes.getD k 0).toNat
    let b1 := b 1
    let phase := if s.sbi.phase = .collecting then BusPhase.watching else s.sbi.phase
    let bad : Prop :=
      bytes.length ≠ 18 + b1 % 4 + (if 128 ≤ b1 then 2 else 0)
      ∨ wordBytes (checkCode (bytes.take (bytes.length - 2))) ≠ bytes.drop (bytes.length - 2)
      ∨ b 3 / 32 = 0 ∨ 5 ≤ b 3 / 32 ∨ b 3 / 8 % 4 = 3 ∨ 4095 < b 13 * 256 + b 14
      ∨ (∃ k, k < b1 % 4 ∧ (b (16 + k) % 16 = 0 ∨ b (16 + k) / 16 % 4 = b 0 % 4
          ∨ ∃ j, j < k ∧ b (16 + j) / 16 % 4 = b (16 + k) / 16 % 4))
    (bad → exec (.frameReceived bytes) s = .next { s with
      sbi := { s.sbi with
        completing := none, phase := phase, latch := { s.sbi.latch with warning := true } }
      hu := { s.hu with
        flags := s.hu.flags ||| 0x8000#16, frameReject := min 65535 (s.hu.frameReject + 1) } })
    ∧ (¬bad → ∃ f, decodeFrame bytes = some f ∧ f.sender.val = b 0 % 4
        ∧ ((s.word 4).getLsbD f.sender.val = false → exec (.frameReceived bytes) s = .next { s with
            sbi := { s.sbi with completing := none, phase := phase }
            hu := { s.hu with flags := s.hu.flags ||| 0x4000#16 } }))

/-- An accepted frame (R33, R34, R37, R42, R142, R145, R197): its sender's record takes all its fields at age 0, keeps
the digest where it brings none, and counts the gap of its sequence; an echo of the own open tag makes the sender's
Awaiting entry Absorbed; its tag enters or leaves the echo-due list; a waking frame sets the wake request (in every
state outside CONFIG: the model's reading, log 16); in SPLIT_AND_RX PMK pulses. Which frames count as the own one,
`isOwnFrame`, is the model's choice where a gap comes first (log 40). The bytes are any that pass the tests of R31 as
the frame f; bits marked 0 in the layout may have any value (R199). -/
def Obligations.AcceptedFrameReplacesTheRecord : Prop :=
  ∀ (bytes : List Byte) (f : ShareFrame) (s : State), s.active = true → s.ctl.state ≠ .config →
    decodeFrame bytes = some f → s.sbi.isOwnFrame bytes = false →
    (s.word 4).getLsbD f.sender.val = true → f.sender ≠ s.ctl.strap →
    let gap := match s.pt.recordOf f.sender with
      | none => 0
      | some r => (f.seq - r.lastSeq - 1).toNat
    let last := s.hou.lastTags[f.sender]
    let others := s.hou.echoDue.filter (fun e => e.originator ≠ f.sender)
    ∃ t : State, exec (.frameReceived bytes) s = .next t
      ∧ t = { s with
          pt := { s.pt with entries := t.pt.entries }
          hou := { s.hou with record := t.hou.record, lastTags := t.hou.lastTags, echoDue := t.hou.echoDue }
          sbi := { s.sbi with
            completing := none, phase := if s.sbi.phase = .collecting then .watching else s.sbi.phase
            wake := s.sbi.wake || decide (f.interval = .one ∧ (f.demand ≠ 0 ∨ f.axleSpeed ≠ 0)) }
          hu := { s.hu with
            missed := min 65535 (s.hu.missed + gap)
            pmk := s.hu.pmk || decide (2 ≤ (s.word 147).toNat)
            pmkLeft := if 2 ≤ (s.word 147).toNat then 2 else s.hu.pmkLeft } }
      ∧ (∀ (k : Nat) (e : PeerEntry), s.pt.entries[k]? = some e →
          ∃ e' : PeerEntry, t.pt.entries[k]? = some e' ∧ e'.station = e.station
          ∧ e'.prevClass = e.prevClass
          ∧ (e.station ≠ f.sender → e' = e)
          ∧ (e.station = f.sender → ∃ r' : PeerRecord, e'.record = some r' ∧ r'.frame = f
              ∧ r'.age = 0 ∧ r'.lastSeq = f.seq
              ∧ (∀ d, f.digest = some d → r'.digest = some d)
              ∧ (f.digest = none → r'.digest = e.record.bind (fun r => r.digest))
              ∧ (e.record = none → r'.missed = 0)
              ∧ (∀ r, e.record = some r → r'.missed = min 255 (r.missed + (f.seq - r.lastSeq - 1).toNat))))
      ∧ (s.hou.record = none → t.hou.record = none)
      ∧ (∀ r, s.hou.record = some r → t.hou.record = some { r with peers := r.peers.map (fun p =>
          if ⟨s.ctl.strap, r.tag⟩ ∈ f.echoes ∧ p.1 = f.sender ∧ p.2 = .awaiting then (p.1, .absorbed) else p) })
      ∧ t.hou.echoDue = (if f.tag = 0 then others else if f.tag = last then s.hou.echoDue
          else others ++ [⟨f.sender, f.tag, .seen⟩])
      ∧ t.hou.lastTags = s.hou.lastTags.set f.sender f.tag

/-- A frame that bears the own number (R15, R32): DUP_STATION is raised and an error goes into the latch each time;
the first sets the duplicate latch and the cause, empties the slot without a report, and stops the station from LISTEN
and RUN into STOPPING, where an open record is discarded and the Due echoes return to Seen (R133, R148); a frame in
flight goes on. That every report latches an error (log 28) and that the quiet counter is 0 at once (log 30) are the
model's readings. Which frames count as the own one, `isOwnFrame`, is the model's choice where a gap comes first (log
40). The bytes are any that pass the tests of R31 as the frame f; bits marked 0 in the layout may have any value
(R199). -/
def Obligations.DuplicateStationStopsTheStation : Prop :=
  ∀ (bytes : List Byte) (f : ShareFrame) (s : State), s.active = true → s.ctl.state ≠ .config →
    decodeFrame bytes = some f → s.sbi.isOwnFrame bytes = false →
    (s.word 4).getLsbD s.ctl.strap.val = true → f.sender = s.ctl.strap →
    let phase := if s.sbi.phase = .collecting then BusPhase.watching else s.sbi.phase
    let b := { s.sbi with completing := none, phase := phase, latch := { s.sbi.latch with error := true } }
    let raised := { s.hu with flags := s.hu.flags ||| 0x2000#16 }
    (s.ctl.dupLatch = true →
      exec (.frameReceived bytes) s = .next { s with sbi := b, hu := raised })
    ∧ (s.ctl.dupLatch = false → s.ctl.state = .stopping ∨ s.ctl.state = .stopped →
      exec (.frameReceived bytes) s = .next { s with
        sbi := { b with slot := none }, hu := raised
        ctl := { s.ctl with dupLatch := true, stopCause := .duplicate } })
    ∧ (s.ctl.dupLatch = false → s.ctl.state = .listen →
      exec (.frameReceived bytes) s = .next { s with
        sbi := { b with slot := none, wake := false, quiet := 0 }, hu := raised
        ctl := { s.ctl with dupLatch := true, stopCause := .duplicate, state := .stopping } })
    ∧ (s.ctl.dupLatch = false → s.ctl.state = .run →
      exec (.frameReceived bytes) s = .next { s with
        sbi := { b with slot := none, wake := false, quiet := 0 }, hu := raised
        ctl := { s.ctl with dupLatch := true, stopCause := .duplicate, state := .stopping }
        hou := { s.hou with
          record := none
          report := if s.hou.record = none then s.hou.report else .cancelled
          echoDue := s.hou.echoDue.map (fun e => ⟨e.originator, e.tag, .seen⟩) } })

/-- Every legal frame's bytes decode to that frame: sent and received frames agree in every field (R19, R31, R199,
R202). The bytes lie as the layout of R199 says, with the codes of 11_formats.md. Any bytes that decode give each
field from its place in that layout, whatever the bits marked 0 hold. On the bus each byte is a dominant start bit,
its data bits from bit 7 down, a recessive stop bit (R18); a receiver collects the bytes sent from these levels, and
SBTX is recessive with no frame in flight and after a frame's end. The check code takes the bits of the bytes from bit
7 down into a register set to FFFFh, with generator 1021h and no inversion, and is 0 over bytes with their code behind
them (R202). A collection begins at the first start bit, goes on over fewer than 8 idle bit times between two bytes,
and ends after 8 of them or with a byte whose stop bit is dominant, whatever follows (R19). -/
def Obligations.FrameRoundTrip : Prop :=
  (∀ f : ShareFrame, f.legal = true →
    let b (k : Nat) : Nat := (f.bytes.getD k 0).toNat
    let signed (x : Int) : Nat := (BitVec.ofInt 16 x).toNat
    let e := f.echoes.length
    decodeFrame f.bytes = some f
    ∧ f.bytes.length = 18 + e + (if f.digest = none then 0 else 2)
    ∧ b 0 = f.sender.val ∧ b 1 = (if f.digest = none then 0 else 128) + e ∧ b 2 = f.seq.toNat
    ∧ b 3 = f.state.code * 32 + f.basis.code * 8 + f.interval.code * 4 + f.health.code
    ∧ b 4 = f.mode.code * 64 + f.slipFlag.toNat * 32 + f.tag.val
    ∧ b 5 * 256 + b 6 = signed f.demand ∧ b 7 * 256 + b 8 = signed f.applied
    ∧ b 9 * 256 + b 10 = f.driveCapacity ∧ b 11 * 256 + b 12 = f.regenCapacity
    ∧ b 13 * 256 + b 14 = f.axleSpeed ∧ b 15 = f.riseStep
    ∧ (∀ k x, f.echoes[k]? = some x → b (16 + k) = x.originator.val * 16 + x.tag.val)
    ∧ (∀ d, f.digest = some d → b (16 + e) * 256 + b (17 + e) = d.toNat)
    ∧ b (f.bytes.length - 2) * 256 + b (f.bytes.length - 1)
      = (checkCode (f.bytes.take (f.bytes.length - 2))).toNat
    ∧ [LifeState.config, .listen, .run, .stopping, .stopped].map LifeState.code = [0, 1, 2, 3, 4]
    ∧ [Basis.normal, .fallback, .isolated].map Basis.code = [0, 1, 2]
    ∧ [Interval.one, .sixteen].map Interval.code = [0, 1]
    ∧ [Mode.road, .tow, .terrain, .crawl].map Mode.code = [0, 1, 2, 3]
    ∧ ([⟨false, false⟩, ⟨true, false⟩, ⟨false, true⟩, ⟨true, true⟩] : List HealthClasses).map HealthClasses.code
      = [0, 1, 2, 3]
    ∧ collectBytes f.levels = f.bytes
    ∧ (∀ bus : ShareBus, (bus.inFlight = none → ∀ n, bus.levelAt n = true)
      ∧ (bus.inFlight = some f →
        (∀ k x, f.bytes[k]? = some x → bus.levelAt (10 * k) = false ∧ bus.levelAt (10 * k + 9) = true
          ∧ ∀ j, j < 8 → bus.levelAt (10 * k + 1 + j) = x.getLsbD (7 - j))
        ∧ ∀ n, 10 * f.bytes.length ≤ n → bus.levelAt n = true)))
  ∧ (∀ (bytes : List Byte) (f : ShareFrame), decodeFrame bytes = some f →
    let b (k : Nat) : Nat := (bytes.getD k 0).toNat
    let signed (n : Nat) : Int := (BitVec.ofNat 16 n).toInt
    f.legal = true ∧ f.sender.val = b 0 % 4 ∧ f.seq.toNat = b 2
    ∧ f.state.code = b 3 / 32 ∧ f.basis.code = b 3 / 8 % 4 ∧ f.interval.code = b 3 / 4 % 2 ∧ f.health.code = b 3 % 4
    ∧ f.mode.code = b 4 / 64 ∧ f.slipFlag.toNat = b 4 / 32 % 2 ∧ f.tag.val = b 4 % 16
    ∧ f.demand = signed (b 5 * 256 + b 6) ∧ f.applied = signed (b 7 * 256 + b 8)
    ∧ f.driveCapacity = b 9 * 256 + b 10 ∧ f.regenCapacity = b 11 * 256 + b 12
    ∧ f.axleSpeed = b 13 * 256 + b 14 ∧ f.riseStep = b 15
    ∧ f.echoes.length = b 1 % 4
    ∧ (∀ k x, f.echoes[k]? = some x → x.originator.val = b (16 + k) / 16 % 4 ∧ x.tag.val = b (16 + k) % 16)
    ∧ f.digest = (if 128 ≤ b 1 then
        some (BitVec.ofNat 16 (b (16 + b 1 % 4) * 256 + b (17 + b 1 % 4))) else none))
  ∧ (∀ bytes : List Byte,
    let next (r : Word) (bit : Bool) : Word :=
      if (r.getLsbD 15 != bit) = true then (r <<< 1) ^^^ 0x1021#16 else r <<< 1
    checkCode bytes
      = (bytes.flatMap (fun x => [7, 6, 5, 4, 3, 2, 1, 0].map (fun j => x.getLsbD j))).foldl next 0xFFFF#16
    ∧ checkCode (bytes ++ wordBytes (checkCode bytes)) = 0)
  ∧ (∀ (lead : Nat) (sent : List (Byte × Nat)) (x : Byte) (after : List Bool), (∀ p ∈ sent, p.2 < 8) →
    let coded (y : Byte) (stop : Bool) : List Bool :=
      false :: [7, 6, 5, 4, 3, 2, 1, 0].map (fun j => y.getLsbD j) ++ [stop]
    let heard := List.replicate lead true
      ++ sent.flatMap (fun p => coded p.1 true ++ List.replicate p.2 true)
    collectBytes heard = sent.map (fun p => p.1)
    ∧ collectBytes (heard ++ coded x false ++ after) = sent.map (fun p => p.1) ++ [x]
    ∧ collectBytes (heard ++ coded x true ++ List.replicate 8 true ++ after) = sent.map (fun p => p.1) ++ [x])

/-! ## Invariants over every step -/

/-- The life cycle's invariant: the lock and the digest stand exactly outside CONFIG, where the store has passed
validation, a resting station commands
nothing, a duplicate silences the station, the table has the expected peers (R10, R15, R40, R100, R162, R189): every
step keeps it. -/
def Obligations.LifeCycleInvariantIsKept : Prop :=
  ∀ s t : State, s.lifeInv → step s = .next t → t.lifeInv

/-- The view's sets are those its entries give, over the expected peers (R48, R50 to R53): every step keeps it. -/
def Obligations.ViewInvariantIsKept : Prop :=
  ∀ s t : State, s.lifeInv → s.viewInv → step s = .next t → t.viewInv

/-- The registers stay in the ranges their tables give, block by block: station control and its counters, the local
port, the wheels, their filter and sample, the peer records with their ages and missed counts, the disagreement
counter, the view's local inputs, the Slip Unit's reference, ratio, TL and hold counter, the handover record and the
echo-due list, the Allocation Engine's and the shaper's results, the interface's counters, the health counters; and at
most one wheel is silent (R69). The motor command and its target lie within ±motor peak (R151, R154, R158). Outside
CONFIG the limits of the local port and of the view lie within their wheel peaks (R169, R181), the disagreement counter
within T_dis (R55), the quiet counter within Q (R35), and in LISTEN the listen counter below L_listen (R11). Every step
keeps it. -/
def Obligations.RangesAreKept : Prop :=
  ∀ s t : State, s.lifeInv → s.rangeInv → s.silentInv → step s = .next t → t.rangeInv ∧ t.silentInv

/-- The reset state has the values after reset that the tables of R1, R39, R61, R73, R74, R92, R103, R127, R151, R169,
R183, R188, R191 and R203 give, and meets all the invariants. The strap number 0 is the model's choice (log 8), as are
the fields that hold progress (logs 12, 13 and 14), the ALE's period count (log 29), the view's period count (log 35)
and the Slip Unit's cut mark (log 36). -/
def Obligations.ResetMeetsTheInvariants : Prop :=
  let r := State.reset
  let wheel : WheelHistory := ⟨none, none, 0, false, 0, false⟩
  r.lifeInv ∧ r.viewInv ∧ r.rangeInv ∧ r.handoverInv ∧ r.silentInv
    ∧ r.ctl = ⟨.config, .none, 0, 0, 0, false, 0⟩
    ∧ r.wsu = ⟨0, wheel, wheel, [], [], ⟨0, 0, false, false, 0, 0⟩⟩
    ∧ r.pt = ⟨[], 0, false, ⟨0, [], 0, .road, 7000, 3000, false, 255, [], [], false, false, false⟩⟩
    ∧ r.slu = ⟨0, 0, false, .none, 0, 0, .zero, false⟩
    ∧ r.hou = ⟨none, 0, none, .none, #v[0, 0, 0, 0], [], none⟩
    ∧ r.ale = ⟨⟨.normal, 0, 0, 0, 0⟩, 0, .zero, 0, none, 0, [], [], 0⟩
    ∧ r.csh = ⟨0, 0, 0, .atTarget, false, false⟩
    ∧ r.sbi = ⟨none, none, none, 0, .one, 0, 0, false, ⟨false, false⟩, 0, false, .watching⟩
    ∧ r.icl = ⟨0, none⟩
    ∧ r.lp = ⟨0, .road, 7000, 3000, false, 255, 0, 148, 0,
        #v[0, 0, 0, 0, 0, 0, 0, 0, 0, 0, 0, 0, 0, 0xFFFF, 0, 0], [], [], 0, false⟩
    ∧ r.ps.locked = false ∧ r.ps.digest = none
    ∧ r.hu = ⟨0, 0, 0, 0, 0, 0, false, 0⟩
    ∧ r.periodCount = 0 ∧ r.stage = .none ∧ r.pending = []
    ∧ ((List.range' 4 18).map r.word
        = [3, 8000, 3, 5, 50, 500, 120, 40, 4, 10, 20, 200, 5, 10, 300, 60, 200, 20])
    ∧ (∀ i, (22 ≤ i ∧ i ≤ 53 → r.word i = 1) ∧ (54 ≤ i ∧ i ≤ 117 → r.word i = 0)
        ∧ (118 ≤ i ∧ i ≤ 133 → r.word i = 0x0800))
    ∧ ((List.range' 134 15).map r.word
        = [5200, 5200, 0, 0, 3072, 2400, 7000, 3000, 40, 80, 4, 4, 50, 1, 200])
    ∧ r.validate = none

end
end

