-- ==== Sys2Proof/Laws/State.lean ====
section
/-! SUPPORT. One lemma per field for each of the small state updates, so that no later proof unfolds one. -/

namespace Sys2Proof.Machine

variable (s : State)

@[simp] theorem State.raise_supplyValid (f : Flag) : (s.raise f).supplyValid = s.supplyValid := rfl
@[simp] theorem State.raise_rstnHigh (f : Flag) : (s.raise f).rstnHigh = s.rstnHigh := rfl
@[simp] theorem State.raise_periodCount (f : Flag) : (s.raise f).periodCount = s.periodCount := rfl
@[simp] theorem State.raise_stage (f : Flag) : (s.raise f).stage = s.stage := rfl
@[simp] theorem State.raise_ctl (f : Flag) : (s.raise f).ctl = s.ctl := rfl
@[simp] theorem State.raise_wsu (f : Flag) : (s.raise f).wsu = s.wsu := rfl
@[simp] theorem State.raise_pt (f : Flag) : (s.raise f).pt = s.pt := rfl
@[simp] theorem State.raise_slu (f : Flag) : (s.raise f).slu = s.slu := rfl
@[simp] theorem State.raise_hou (f : Flag) : (s.raise f).hou = s.hou := rfl
@[simp] theorem State.raise_ale (f : Flag) : (s.raise f).ale = s.ale := rfl
@[simp] theorem State.raise_csh (f : Flag) : (s.raise f).csh = s.csh := rfl
@[simp] theorem State.raise_sbi (f : Flag) : (s.raise f).sbi = s.sbi := rfl
@[simp] theorem State.raise_icl (f : Flag) : (s.raise f).icl = s.icl := rfl
@[simp] theorem State.raise_lp (f : Flag) : (s.raise f).lp = s.lp := rfl
@[simp] theorem State.raise_ps (f : Flag) : (s.raise f).ps = s.ps := rfl
@[simp] theorem State.raise_hu (f : Flag) : (s.raise f).hu = s.hu.raise f := rfl
@[simp] theorem State.raise_pending (f : Flag) : (s.raise f).pending = s.pending := rfl

@[simp] theorem State.latchError_supplyValid : (s.latchError).supplyValid = s.supplyValid := rfl
@[simp] theorem State.latchError_rstnHigh : (s.latchError).rstnHigh = s.rstnHigh := rfl
@[simp] theorem State.latchError_periodCount : (s.latchError).periodCount = s.periodCount := rfl
@[simp] theorem State.latchError_stage : (s.latchError).stage = s.stage := rfl
@[simp] theorem State.latchError_ctl : (s.latchError).ctl = s.ctl := rfl
@[simp] theorem State.latchError_wsu : (s.latchError).wsu = s.wsu := rfl
@[simp] theorem State.latchError_pt : (s.latchError).pt = s.pt := rfl
@[simp] theorem State.latchError_slu : (s.latchError).slu = s.slu := rfl
@[simp] theorem State.latchError_hou : (s.latchError).hou = s.hou := rfl
@[simp] theorem State.latchError_ale : (s.latchError).ale = s.ale := rfl
@[simp] theorem State.latchError_csh : (s.latchError).csh = s.csh := rfl
@[simp] theorem State.latchError_sbi : (s.latchError).sbi = { s.sbi with latch := { s.sbi.latch with error := true } } := rfl
@[simp] theorem State.latchError_icl : (s.latchError).icl = s.icl := rfl
@[simp] theorem State.latchError_lp : (s.latchError).lp = s.lp := rfl
@[simp] theorem State.latchError_ps : (s.latchError).ps = s.ps := rfl
@[simp] theorem State.latchError_hu : (s.latchError).hu = s.hu := rfl
@[simp] theorem State.latchError_pending : (s.latchError).pending = s.pending := rfl

@[simp] theorem State.latchWarning_supplyValid : (s.latchWarning).supplyValid = s.supplyValid := rfl
@[simp] theorem State.latchWarning_rstnHigh : (s.latchWarning).rstnHigh = s.rstnHigh := rfl
@[simp] theorem State.latchWarning_periodCount : (s.latchWarning).periodCount = s.periodCount := rfl
@[simp] theorem State.latchWarning_stage : (s.latchWarning).stage = s.stage := rfl
@[simp] theorem State.latchWarning_ctl : (s.latchWarning).ctl = s.ctl := rfl
@[simp] theorem State.latchWarning_wsu : (s.latchWarning).wsu = s.wsu := rfl
@[simp] theorem State.latchWarning_pt : (s.latchWarning).pt = s.pt := rfl
@[simp] theorem State.latchWarning_slu : (s.latchWarning).slu = s.slu := rfl
@[simp] theorem State.latchWarning_hou : (s.latchWarning).hou = s.hou := rfl
@[simp] theorem State.latchWarning_ale : (s.latchWarning).ale = s.ale := rfl
@[simp] theorem State.latchWarning_csh : (s.latchWarning).csh = s.csh := rfl
@[simp] theorem State.latchWarning_sbi : (s.latchWarning).sbi = { s.sbi with latch := { s.sbi.latch with warning := true } } := rfl
@[simp] theorem State.latchWarning_icl : (s.latchWarning).icl = s.icl := rfl
@[simp] theorem State.latchWarning_lp : (s.latchWarning).lp = s.lp := rfl
@[simp] theorem State.latchWarning_ps : (s.latchWarning).ps = s.ps := rfl
@[simp] theorem State.latchWarning_hu : (s.latchWarning).hu = s.hu := rfl
@[simp] theorem State.latchWarning_pending : (s.latchWarning).pending = s.pending := rfl

@[simp] theorem State.raiseError_supplyValid (f : Flag) : (s.raiseError f).supplyValid = s.supplyValid := rfl
@[simp] theorem State.raiseError_rstnHigh (f : Flag) : (s.raiseError f).rstnHigh = s.rstnHigh := rfl
@[simp] theorem State.raiseError_periodCount (f : Flag) : (s.raiseError f).periodCount = s.periodCount := rfl
@[simp] theorem State.raiseError_stage (f : Flag) : (s.raiseError f).stage = s.stage := rfl
@[simp] theorem State.raiseError_ctl (f : Flag) : (s.raiseError f).ctl = s.ctl := rfl
@[simp] theorem State.raiseError_wsu (f : Flag) : (s.raiseError f).wsu = s.wsu := rfl
@[simp] theorem State.raiseError_pt (f : Flag) : (s.raiseError f).pt = s.pt := rfl
@[simp] theorem State.raiseError_slu (f : Flag) : (s.raiseError f).slu = s.slu := rfl
@[simp] theorem State.raiseError_hou (f : Flag) : (s.raiseError f).hou = s.hou := rfl
@[simp] theorem State.raiseError_ale (f : Flag) : (s.raiseError f).ale = s.ale := rfl
@[simp] theorem State.raiseError_csh (f : Flag) : (s.raiseError f).csh = s.csh := rfl
@[simp] theorem State.raiseError_sbi (f : Flag) : (s.raiseError f).sbi = { s.sbi with latch := { s.sbi.latch with error := true } } := rfl
@[simp] theorem State.raiseError_icl (f : Flag) : (s.raiseError f).icl = s.icl := rfl
@[simp] theorem State.raiseError_lp (f : Flag) : (s.raiseError f).lp = s.lp := rfl
@[simp] theorem State.raiseError_ps (f : Flag) : (s.raiseError f).ps = s.ps := rfl
@[simp] theorem State.raiseError_hu (f : Flag) : (s.raiseError f).hu = s.hu.raise f := rfl
@[simp] theorem State.raiseError_pending (f : Flag) : (s.raiseError f).pending = s.pending := rfl

@[simp] theorem State.raiseWarning_supplyValid (f : Flag) : (s.raiseWarning f).supplyValid = s.supplyValid := rfl
@[simp] theorem State.raiseWarning_rstnHigh (f : Flag) : (s.raiseWarning f).rstnHigh = s.rstnHigh := rfl
@[simp] theorem State.raiseWarning_periodCount (f : Flag) : (s.raiseWarning f).periodCount = s.periodCount := rfl
@[simp] theorem State.raiseWarning_stage (f : Flag) : (s.raiseWarning f).stage = s.stage := rfl
@[simp] theorem State.raiseWarning_ctl (f : Flag) : (s.raiseWarning f).ctl = s.ctl := rfl
@[simp] theorem State.raiseWarning_wsu (f : Flag) : (s.raiseWarning f).wsu = s.wsu := rfl
@[simp] theorem State.raiseWarning_pt (f : Flag) : (s.raiseWarning f).pt = s.pt := rfl
@[simp] theorem State.raiseWarning_slu (f : Flag) : (s.raiseWarning f).slu = s.slu := rfl
@[simp] theorem State.raiseWarning_hou (f : Flag) : (s.raiseWarning f).hou = s.hou := rfl
@[simp] theorem State.raiseWarning_ale (f : Flag) : (s.raiseWarning f).ale = s.ale := rfl
@[simp] theorem State.raiseWarning_csh (f : Flag) : (s.raiseWarning f).csh = s.csh := rfl
@[simp] theorem State.raiseWarning_sbi (f : Flag) : (s.raiseWarning f).sbi = { s.sbi with latch := { s.sbi.latch with warning := true } } := rfl
@[simp] theorem State.raiseWarning_icl (f : Flag) : (s.raiseWarning f).icl = s.icl := rfl
@[simp] theorem State.raiseWarning_lp (f : Flag) : (s.raiseWarning f).lp = s.lp := rfl
@[simp] theorem State.raiseWarning_ps (f : Flag) : (s.raiseWarning f).ps = s.ps := rfl
@[simp] theorem State.raiseWarning_hu (f : Flag) : (s.raiseWarning f).hu = s.hu.raise f := rfl
@[simp] theorem State.raiseWarning_pending (f : Flag) : (s.raiseWarning f).pending = s.pending := rfl

@[simp] theorem State.reportReject_supplyValid : (s.reportReject).supplyValid = s.supplyValid := rfl
@[simp] theorem State.reportReject_rstnHigh : (s.reportReject).rstnHigh = s.rstnHigh := rfl
@[simp] theorem State.reportReject_periodCount : (s.reportReject).periodCount = s.periodCount := rfl
@[simp] theorem State.reportReject_stage : (s.reportReject).stage = s.stage := rfl
@[simp] theorem State.reportReject_ctl : (s.reportReject).ctl = s.ctl := rfl
@[simp] theorem State.reportReject_wsu : (s.reportReject).wsu = s.wsu := rfl
@[simp] theorem State.reportReject_pt : (s.reportReject).pt = s.pt := rfl
@[simp] theorem State.reportReject_slu : (s.reportReject).slu = s.slu := rfl
@[simp] theorem State.reportReject_hou : (s.reportReject).hou = s.hou := rfl
@[simp] theorem State.reportReject_ale : (s.reportReject).ale = s.ale := rfl
@[simp] theorem State.reportReject_csh : (s.reportReject).csh = s.csh := rfl
@[simp] theorem State.reportReject_sbi : (s.reportReject).sbi = { s.sbi with latch := { s.sbi.latch with warning := true } } := rfl
@[simp] theorem State.reportReject_icl : (s.reportReject).icl = s.icl := rfl
@[simp] theorem State.reportReject_lp : (s.reportReject).lp = s.lp := rfl
@[simp] theorem State.reportReject_ps : (s.reportReject).ps = s.ps := rfl
@[simp] theorem State.reportReject_pending : (s.reportReject).pending = s.pending := rfl

@[simp] theorem State.reportOverwrite_supplyValid : (s.reportOverwrite).supplyValid = s.supplyValid := rfl
@[simp] theorem State.reportOverwrite_rstnHigh : (s.reportOverwrite).rstnHigh = s.rstnHigh := rfl
@[simp] theorem State.reportOverwrite_periodCount : (s.reportOverwrite).periodCount = s.periodCount := rfl
@[simp] theorem State.reportOverwrite_stage : (s.reportOverwrite).stage = s.stage := rfl
@[simp] theorem State.reportOverwrite_ctl : (s.reportOverwrite).ctl = s.ctl := rfl
@[simp] theorem State.reportOverwrite_wsu : (s.reportOverwrite).wsu = s.wsu := rfl
@[simp] theorem State.reportOverwrite_pt : (s.reportOverwrite).pt = s.pt := rfl
@[simp] theorem State.reportOverwrite_slu : (s.reportOverwrite).slu = s.slu := rfl
@[simp] theorem State.reportOverwrite_hou : (s.reportOverwrite).hou = s.hou := rfl
@[simp] theorem State.reportOverwrite_ale : (s.reportOverwrite).ale = s.ale := rfl
@[simp] theorem State.reportOverwrite_csh : (s.reportOverwrite).csh = s.csh := rfl
@[simp] theorem State.reportOverwrite_sbi : (s.reportOverwrite).sbi = s.sbi := rfl
@[simp] theorem State.reportOverwrite_icl : (s.reportOverwrite).icl = s.icl := rfl
@[simp] theorem State.reportOverwrite_lp : (s.reportOverwrite).lp = s.lp := rfl
@[simp] theorem State.reportOverwrite_ps : (s.reportOverwrite).ps = s.ps := rfl
@[simp] theorem State.reportOverwrite_pending : (s.reportOverwrite).pending = s.pending := rfl

@[simp] theorem State.reportTxError_supplyValid : (s.reportTxError).supplyValid = s.supplyValid := rfl
@[simp] theorem State.reportTxError_rstnHigh : (s.reportTxError).rstnHigh = s.rstnHigh := rfl
@[simp] theorem State.reportTxError_periodCount : (s.reportTxError).periodCount = s.periodCount := rfl
@[simp] theorem State.reportTxError_stage : (s.reportTxError).stage = s.stage := rfl
@[simp] theorem State.reportTxError_ctl : (s.reportTxError).ctl = s.ctl := rfl
@[simp] theorem State.reportTxError_wsu : (s.reportTxError).wsu = s.wsu := rfl
@[simp] theorem State.reportTxError_pt : (s.reportTxError).pt = s.pt := rfl
@[simp] theorem State.reportTxError_slu : (s.reportTxError).slu = s.slu := rfl
@[simp] theorem State.reportTxError_hou : (s.reportTxError).hou = s.hou := rfl
@[simp] theorem State.reportTxError_ale : (s.reportTxError).ale = s.ale := rfl
@[simp] theorem State.reportTxError_csh : (s.reportTxError).csh = s.csh := rfl
@[simp] theorem State.reportTxError_sbi : (s.reportTxError).sbi = { s.sbi with latch := { s.sbi.latch with error := true } } := rfl
@[simp] theorem State.reportTxError_icl : (s.reportTxError).icl = s.icl := rfl
@[simp] theorem State.reportTxError_lp : (s.reportTxError).lp = s.lp := rfl
@[simp] theorem State.reportTxError_ps : (s.reportTxError).ps = s.ps := rfl
@[simp] theorem State.reportTxError_pending : (s.reportTxError).pending = s.pending := rfl

@[simp] theorem State.countMissed_supplyValid (gap : Nat) : (s.countMissed gap).supplyValid = s.supplyValid := rfl
@[simp] theorem State.countMissed_rstnHigh (gap : Nat) : (s.countMissed gap).rstnHigh = s.rstnHigh := rfl
@[simp] theorem State.countMissed_periodCount (gap : Nat) : (s.countMissed gap).periodCount = s.periodCount := rfl
@[simp] theorem State.countMissed_stage (gap : Nat) : (s.countMissed gap).stage = s.stage := rfl
@[simp] theorem State.countMissed_ctl (gap : Nat) : (s.countMissed gap).ctl = s.ctl := rfl
@[simp] theorem State.countMissed_wsu (gap : Nat) : (s.countMissed gap).wsu = s.wsu := rfl
@[simp] theorem State.countMissed_pt (gap : Nat) : (s.countMissed gap).pt = s.pt := rfl
@[simp] theorem State.countMissed_slu (gap : Nat) : (s.countMissed gap).slu = s.slu := rfl
@[simp] theorem State.countMissed_hou (gap : Nat) : (s.countMissed gap).hou = s.hou := rfl
@[simp] theorem State.countMissed_ale (gap : Nat) : (s.countMissed gap).ale = s.ale := rfl
@[simp] theorem State.countMissed_csh (gap : Nat) : (s.countMissed gap).csh = s.csh := rfl
@[simp] theorem State.countMissed_sbi (gap : Nat) : (s.countMissed gap).sbi = s.sbi := rfl
@[simp] theorem State.countMissed_icl (gap : Nat) : (s.countMissed gap).icl = s.icl := rfl
@[simp] theorem State.countMissed_lp (gap : Nat) : (s.countMissed gap).lp = s.lp := rfl
@[simp] theorem State.countMissed_ps (gap : Nat) : (s.countMissed gap).ps = s.ps := rfl
@[simp] theorem State.countMissed_pending (gap : Nat) : (s.countMissed gap).pending = s.pending := rfl

@[simp] theorem State.countOverrun_supplyValid : (s.countOverrun).supplyValid = s.supplyValid := rfl
@[simp] theorem State.countOverrun_rstnHigh : (s.countOverrun).rstnHigh = s.rstnHigh := rfl
@[simp] theorem State.countOverrun_periodCount : (s.countOverrun).periodCount = s.periodCount := rfl
@[simp] theorem State.countOverrun_stage : (s.countOverrun).stage = s.stage := rfl
@[simp] theorem State.countOverrun_ctl : (s.countOverrun).ctl = s.ctl := rfl
@[simp] theorem State.countOverrun_wsu : (s.countOverrun).wsu = s.wsu := rfl
@[simp] theorem State.countOverrun_pt : (s.countOverrun).pt = s.pt := rfl
@[simp] theorem State.countOverrun_slu : (s.countOverrun).slu = s.slu := rfl
@[simp] theorem State.countOverrun_hou : (s.countOverrun).hou = s.hou := rfl
@[simp] theorem State.countOverrun_ale : (s.countOverrun).ale = s.ale := rfl
@[simp] theorem State.countOverrun_csh : (s.countOverrun).csh = s.csh := rfl
@[simp] theorem State.countOverrun_sbi : (s.countOverrun).sbi = s.sbi := rfl
@[simp] theorem State.countOverrun_icl : (s.countOverrun).icl = s.icl := rfl
@[simp] theorem State.countOverrun_lp : (s.countOverrun).lp = s.lp := rfl
@[simp] theorem State.countOverrun_ps : (s.countOverrun).ps = s.ps := rfl
@[simp] theorem State.countOverrun_pending : (s.countOverrun).pending = s.pending := rfl

@[simp] theorem State.portFault_supplyValid : (s.portFault).supplyValid = s.supplyValid := rfl
@[simp] theorem State.portFault_rstnHigh : (s.portFault).rstnHigh = s.rstnHigh := rfl
@[simp] theorem State.portFault_periodCount : (s.portFault).periodCount = s.periodCount := rfl
@[simp] theorem State.portFault_stage : (s.portFault).stage = s.stage := rfl
@[simp] theorem State.portFault_ctl : (s.portFault).ctl = s.ctl := rfl
@[simp] theorem State.portFault_wsu : (s.portFault).wsu = s.wsu := rfl
@[simp] theorem State.portFault_pt : (s.portFault).pt = s.pt := rfl
@[simp] theorem State.portFault_slu : (s.portFault).slu = s.slu := rfl
@[simp] theorem State.portFault_hou : (s.portFault).hou = s.hou := rfl
@[simp] theorem State.portFault_ale : (s.portFault).ale = s.ale := rfl
@[simp] theorem State.portFault_csh : (s.portFault).csh = s.csh := rfl
@[simp] theorem State.portFault_sbi : (s.portFault).sbi = s.sbi := rfl
@[simp] theorem State.portFault_icl : (s.portFault).icl = s.icl := rfl
@[simp] theorem State.portFault_lp : (s.portFault).lp = s.lp := rfl
@[simp] theorem State.portFault_ps : (s.portFault).ps = s.ps := rfl
@[simp] theorem State.portFault_hu : (s.portFault).hu = s.hu.raise .portFault := rfl
@[simp] theorem State.portFault_pending : (s.portFault).pending = s.pending := rfl

@[simp] theorem State.requestPulse_supplyValid : (s.requestPulse).supplyValid = s.supplyValid := rfl
@[simp] theorem State.requestPulse_rstnHigh : (s.requestPulse).rstnHigh = s.rstnHigh := rfl
@[simp] theorem State.requestPulse_periodCount : (s.requestPulse).periodCount = s.periodCount := rfl
@[simp] theorem State.requestPulse_stage : (s.requestPulse).stage = s.stage := rfl
@[simp] theorem State.requestPulse_ctl : (s.requestPulse).ctl = s.ctl := rfl
@[simp] theorem State.requestPulse_wsu : (s.requestPulse).wsu = s.wsu := rfl
@[simp] theorem State.requestPulse_pt : (s.requestPulse).pt = s.pt := rfl
@[simp] theorem State.requestPulse_slu : (s.requestPulse).slu = s.slu := rfl
@[simp] theorem State.requestPulse_hou : (s.requestPulse).hou = s.hou := rfl
@[simp] theorem State.requestPulse_ale : (s.requestPulse).ale = s.ale := rfl
@[simp] theorem State.requestPulse_csh : (s.requestPulse).csh = s.csh := rfl
@[simp] theorem State.requestPulse_sbi : (s.requestPulse).sbi = s.sbi := rfl
@[simp] theorem State.requestPulse_icl : (s.requestPulse).icl = s.icl := rfl
@[simp] theorem State.requestPulse_lp : (s.requestPulse).lp = s.lp := rfl
@[simp] theorem State.requestPulse_ps : (s.requestPulse).ps = s.ps := rfl
@[simp] theorem State.requestPulse_pending : (s.requestPulse).pending = s.pending := rfl

@[simp] theorem State.setReply_supplyValid (reply : List Word) : (s.setReply reply).supplyValid = s.supplyValid := rfl
@[simp] theorem State.setReply_rstnHigh (reply : List Word) : (s.setReply reply).rstnHigh = s.rstnHigh := rfl
@[simp] theorem State.setReply_periodCount (reply : List Word) : (s.setReply reply).periodCount = s.periodCount := rfl
@[simp] theorem State.setReply_stage (reply : List Word) : (s.setReply reply).stage = s.stage := rfl
@[simp] theorem State.setReply_ctl (reply : List Word) : (s.setReply reply).ctl = s.ctl := rfl
@[simp] theorem State.setReply_wsu (reply : List Word) : (s.setReply reply).wsu = s.wsu := rfl
@[simp] theorem State.setReply_pt (reply : List Word) : (s.setReply reply).pt = s.pt := rfl
@[simp] theorem State.setReply_slu (reply : List Word) : (s.setReply reply).slu = s.slu := rfl
@[simp] theorem State.setReply_hou (reply : List Word) : (s.setReply reply).hou = s.hou := rfl
@[simp] theorem State.setReply_ale (reply : List Word) : (s.setReply reply).ale = s.ale := rfl
@[simp] theorem State.setReply_csh (reply : List Word) : (s.setReply reply).csh = s.csh := rfl
@[simp] theorem State.setReply_sbi (reply : List Word) : (s.setReply reply).sbi = s.sbi := rfl
@[simp] theorem State.setReply_icl (reply : List Word) : (s.setReply reply).icl = s.icl := rfl
@[simp] theorem State.setReply_lp (reply : List Word) : (s.setReply reply).lp = { s.lp with reply := reply } := rfl
@[simp] theorem State.setReply_ps (reply : List Word) : (s.setReply reply).ps = s.ps := rfl
@[simp] theorem State.setReply_hu (reply : List Word) : (s.setReply reply).hu = s.hu := rfl
@[simp] theorem State.setReply_pending (reply : List Word) : (s.setReply reply).pending = s.pending := rfl

@[simp] theorem State.deliver_supplyValid (n : Nat) : (s.deliver n).supplyValid = s.supplyValid := rfl
@[simp] theorem State.deliver_rstnHigh (n : Nat) : (s.deliver n).rstnHigh = s.rstnHigh := rfl
@[simp] theorem State.deliver_periodCount (n : Nat) : (s.deliver n).periodCount = s.periodCount := rfl
@[simp] theorem State.deliver_stage (n : Nat) : (s.deliver n).stage = s.stage := rfl
@[simp] theorem State.deliver_ctl (n : Nat) : (s.deliver n).ctl = s.ctl := rfl
@[simp] theorem State.deliver_wsu (n : Nat) : (s.deliver n).wsu = s.wsu := rfl
@[simp] theorem State.deliver_pt (n : Nat) : (s.deliver n).pt = s.pt := rfl
@[simp] theorem State.deliver_slu (n : Nat) : (s.deliver n).slu = s.slu := rfl
@[simp] theorem State.deliver_hou (n : Nat) : (s.deliver n).hou = s.hou := rfl
@[simp] theorem State.deliver_ale (n : Nat) : (s.deliver n).ale = s.ale := rfl
@[simp] theorem State.deliver_csh (n : Nat) : (s.deliver n).csh = s.csh := rfl
@[simp] theorem State.deliver_sbi (n : Nat) : (s.deliver n).sbi = s.sbi := rfl
@[simp] theorem State.deliver_icl (n : Nat) : (s.deliver n).icl = s.icl := rfl
@[simp] theorem State.deliver_ps (n : Nat) : (s.deliver n).ps = s.ps := rfl
@[simp] theorem State.deliver_hu (n : Nat) : (s.deliver n).hu = s.hu := rfl
@[simp] theorem State.deliver_pending (n : Nat) : (s.deliver n).pending = s.pending := rfl

@[simp] theorem State.stopInto_supplyValid (l : LifeState) (c : StopCause) : (s.stopInto l c).supplyValid = s.supplyValid := rfl
@[simp] theorem State.stopInto_rstnHigh (l : LifeState) (c : StopCause) : (s.stopInto l c).rstnHigh = s.rstnHigh := rfl
@[simp] theorem State.stopInto_periodCount (l : LifeState) (c : StopCause) : (s.stopInto l c).periodCount = s.periodCount := rfl
@[simp] theorem State.stopInto_stage (l : LifeState) (c : StopCause) : (s.stopInto l c).stage = s.stage := rfl
@[simp] theorem State.stopInto_ctl (l : LifeState) (c : StopCause) : (s.stopInto l c).ctl = { s.ctl with state := l, stopCause := c } := rfl
@[simp] theorem State.stopInto_wsu (l : LifeState) (c : StopCause) : (s.stopInto l c).wsu = s.wsu := rfl
@[simp] theorem State.stopInto_pt (l : LifeState) (c : StopCause) : (s.stopInto l c).pt = s.pt := rfl
@[simp] theorem State.stopInto_slu (l : LifeState) (c : StopCause) : (s.stopInto l c).slu = s.slu := rfl
@[simp] theorem State.stopInto_hou (l : LifeState) (c : StopCause) : (s.stopInto l c).hou = s.hou := rfl
@[simp] theorem State.stopInto_ale (l : LifeState) (c : StopCause) : (s.stopInto l c).ale = s.ale := rfl
@[simp] theorem State.stopInto_csh (l : LifeState) (c : StopCause) : (s.stopInto l c).csh = s.csh := rfl
@[simp] theorem State.stopInto_icl (l : LifeState) (c : StopCause) : (s.stopInto l c).icl = s.icl := rfl
@[simp] theorem State.stopInto_lp (l : LifeState) (c : StopCause) : (s.stopInto l c).lp = s.lp := rfl
@[simp] theorem State.stopInto_ps (l : LifeState) (c : StopCause) : (s.stopInto l c).ps = s.ps := rfl
@[simp] theorem State.stopInto_hu (l : LifeState) (c : StopCause) : (s.stopInto l c).hu = s.hu := rfl
@[simp] theorem State.stopInto_pending (l : LifeState) (c : StopCause) : (s.stopInto l c).pending = s.pending := rfl

/-! ## The units' own updates -/

@[simp] theorem HealthUnit.raise_flags (hu : HealthUnit) (f : Flag) :
    (hu.raise f).flags = hu.flags ||| BitVec.twoPow 16 f.bit := rfl

@[simp] theorem HealthUnit.raise_pmk (hu : HealthUnit) (f : Flag) : (hu.raise f).pmk = hu.pmk := rfl

@[simp] theorem HealthUnit.raise_missed (hu : HealthUnit) (f : Flag) : (hu.raise f).missed = hu.missed := rfl

@[simp] theorem ShareBus.release_slot (b : ShareBus) (p : BusPhase) : (b.release p).slot = b.slot := rfl

@[simp] theorem ShareBus.release_inFlight (b : ShareBus) (p : BusPhase) : (b.release p).inFlight = none := rfl

@[simp] theorem ShareBus.release_seq (b : ShareBus) (p : BusPhase) : (b.release p).seq = b.seq := rfl

/-- A flag is raised after its own raise. -/
theorem HealthUnit.raised_raise (hu : HealthUnit) (f : Flag) : (hu.raise f).raised f = true := by
  cases f <;> simp [HealthUnit.raised, Flag.bit]

/-- A raise leaves every other flag as it was. -/
theorem HealthUnit.raised_raise_of_ne (hu : HealthUnit) {f g : Flag} (h : f ≠ g) :
    (hu.raise f).raised g = hu.raised g := by
  cases f <;> cases g <;> simp [HealthUnit.raised, Flag.bit] at h ⊢

@[simp] theorem State.warnIf_true (f : Flag) : s.warnIf true f = s.raiseWarning f := rfl

@[simp] theorem State.warnIf_false (f : Flag) : s.warnIf false f = s := rfl

end Sys2Proof.Machine
end

