-- ==== Sys2Proof/Laws/Store.lean ====
section
/-! SUPPORT. The parameter store: a read after a write, and that a write leaves every other word alone. -/

namespace Sys2Proof.Machine

@[simp] theorem ParamStore.write_locked (ps : ParamStore) (i : Nat) (w : Word) :
    (ps.write i w).locked = ps.locked := rfl

@[simp] theorem ParamStore.write_digest (ps : ParamStore) (i : Nat) (w : Word) :
    (ps.write i w).digest = ps.digest := rfl

/-- The words after a write: the one written, and the others as they were. -/
theorem ParamStore.write_words (ps : ParamStore) {i j : Nat} (hi : 4 ≤ i) (hj : 4 ≤ j) (h : i ≤ 148) (w : Word) :
    ((ps.write i w).words[j - 4]?).getD 0 = if j = i then w else (ps.words[j - 4]?).getD 0 := by
  unfold ParamStore.write
  by_cases hji : j = i
  · subst hji
    simp [show j - 4 < 145 by omega]
  · have hne : i - 4 ≠ j - 4 := by omega
    simp [hji, hne]

/-- The identity words do not depend on the store (R8, R187). -/
theorem State.word_identity (s : State) :
    s.word 0 = Config.partCode ∧ s.word 1 = Config.revision ∧ s.word 2 = natWord s.ctl.strap.val
      ∧ s.word 3 = Config.formatVersion :=
  ⟨rfl, rfl, rfl, rfl⟩

/-- A configuration word depends on the store's words alone. -/
theorem State.word_config (s : State) {i : Nat} (h : 4 ≤ i) : s.word i = (s.ps.words[i - 4]?).getD 0 := by
  unfold State.word
  simp [show i ≠ 0 by omega, show i ≠ 1 by omega, show i ≠ 2 by omega, show i ≠ 3 by omega]

/-- Two states with the same store and strap number read the same words. -/
theorem State.word_congr {s t : State} (hp : t.ps = s.ps) (hc : t.ctl.strap = s.ctl.strap) (i : Nat) :
    t.word i = s.word i := by
  unfold State.word State.own
  rw [hp, hc]

/-- A parameter lies in the range of its row. -/
theorem State.param_le (s : State) (i : Nat) (h : (paramRow i).lo ≤ (paramRow i).hi) :
    (paramRow i).lo ≤ s.param i ∧ s.param i ≤ (paramRow i).hi := by
  unfold State.param holdNat
  omega

/-- Two states with the same store and strap number read the same parameters. -/
theorem State.param_congr {s t : State} (hp : t.ps = s.ps) (hc : t.ctl.strap = s.ctl.strap) (i : Nat) :
    t.param i = s.param i := by
  unfold State.param
  rw [State.word_congr hp hc]

/-- Two states with the same store and strap number have the same expected stations. -/
theorem State.expected_congr {s t : State} (hp : t.ps = s.ps) (hc : t.ctl.strap = s.ctl.strap) :
    t.expected = s.expected := by
  unfold State.expected
  rw [State.word_congr hp hc]

/-- One parameter word at the cursor (R174): what it does to the store, the cursor and the overrun counter. -/
theorem State.writeAtCursor_cases (s : State) (w : Word) :
    (s.lp.last < s.lp.cursor ∧ s.writeAtCursor w = { s with
      hu := { s.hu with storeOverrun := growTo counterCap s.hu.storeOverrun 1 }, lp := { s.lp with overrun := true } })
    ∨ (s.lp.cursor ≤ s.lp.last ∧ s.lp.cursor ≤ 3
        ∧ s.writeAtCursor w = { s with lp := { s.lp with cursor := s.lp.cursor + 1 } })
    ∨ (s.lp.cursor ≤ s.lp.last ∧ 4 ≤ s.lp.cursor ∧ s.writeAtCursor w = { s with
        ps := s.ps.write s.lp.cursor w, lp := { s.lp with cursor := s.lp.cursor + 1 } }) := by
  unfold State.writeAtCursor
  by_cases h : s.lp.last < s.lp.cursor
  · exact .inl ⟨h, by simp [h, State.countOverrun]⟩
  · by_cases h3 : s.lp.cursor ≤ 3
    · exact .inr (.inl ⟨by omega, h3, by simp [h, h3]⟩)
    · exact .inr (.inr ⟨by omega, by omega, by simp [h, h3]⟩)

end Sys2Proof.Machine
end

