-- ==== Sys2Proof/Laws/Ops.lean ====
section
/-! SUPPORT. One lemma for each shared operation, which says once what it can do. -/

namespace Sys2Proof.Machine

/-! ## When a meaning acts -/

theorem whenActive_of_active {s : State} (h : s.active = true) (f : State → State) : whenActive s f = .next (f s) := by
  simp [whenActive, h]

theorem whenActive_of_inactive {s : State} (h : s.active = false) (f : State → State) : whenActive s f = .next s := by
  simp [whenActive, h]

/-- A meaning of an active station answers the changed state or, held in a reset, the state as it was. -/
theorem whenActive_cases {s t : State} {f : State → State} (h : whenActive s f = .next t) :
    (s.active = true ∧ t = f s) ∨ (s.active = false ∧ t = s) := by
  unfold whenActive at h
  cases ha : s.active <;> simp [ha] at h
  · exact .inr ⟨rfl, h.symm⟩
  · exact .inl ⟨rfl, h.symm⟩

theorem onPublication_of_awaited {s : State} {g : Stage} (h : s.active = true) (hs : s.stage = g) (f : State → State) :
    onPublication g s f = .next (f s) := by
  simp [onPublication, whenActive, h, hs]

theorem onPublication_of_ne {s : State} {g : Stage} (hs : s.stage ≠ g) (f : State → State) :
    onPublication g s f = .next s := by
  simp [onPublication, whenActive, hs]

/-- A stage acts on its publication, or does nothing. -/
theorem onPublication_cases {s t : State} {g : Stage} {f : State → State} (h : onPublication g s f = .next t) :
    (s.active = true ∧ s.stage = g ∧ t = f s) ∨ t = s := by
  rcases whenActive_cases h with ⟨ha, ht⟩ | ⟨-, ht⟩
  · by_cases hs : s.stage = g
    · exact .inl ⟨ha, hs, by simpa [hs] using ht⟩
    · exact .inr (by simpa [hs] using ht)
  · exact .inr ht

theorem onPort_of_active {s : State} (h : s.active = true) (words : List Word) (f : State → State) :
    onPort words s f = .next (f (s.deliver (1 + words.length))) := by
  simp [onPort, whenActive, h]

/-- A command of the local port acts on the delivered state, or does nothing. -/
theorem onPort_cases {s t : State} {words : List Word} {f : State → State} (h : onPort words s f = .next t) :
    (s.active = true ∧ t = f (s.deliver (1 + words.length))) ∨ (s.active = false ∧ t = s) :=
  whenActive_cases h

@[simp] theorem onBus_config {s : State} (h : s.ctl.state = .config) (f : State → State) : s.onBus f = s := by
  simp [State.onBus, h]

theorem onBus_of_ne {s : State} (h : s.ctl.state ≠ .config) (f : State → State) : s.onBus f = f s := by
  simp [State.onBus, h]

/-! ## Resets -/

@[simp] theorem State.clearRuntime_supplyValid (s : State) : s.clearRuntime.supplyValid = s.supplyValid := rfl

@[simp] theorem State.clearRuntime_rstnHigh (s : State) : s.clearRuntime.rstnHigh = s.rstnHigh := rfl

@[simp] theorem State.clearRuntime_stage (s : State) : s.clearRuntime.stage = .none := rfl

@[simp] theorem State.clearRuntime_ctl (s : State) : s.clearRuntime.ctl = .reset s.ctl.strap := rfl

@[simp] theorem State.clearRuntime_sbi (s : State) : s.clearRuntime.sbi = .reset := rfl

@[simp] theorem State.clearRuntime_hou (s : State) : s.clearRuntime.hou = .reset := rfl

@[simp] theorem State.clearRuntime_csh (s : State) : s.clearRuntime.csh = .reset := rfl

@[simp] theorem State.clearRuntime_words (s : State) : s.clearRuntime.ps.words = s.ps.words := rfl

@[simp] theorem State.clearRuntime_pending (s : State) : s.clearRuntime.pending = s.pending := rfl

/-- The straps give STN1 the value 2 and STN0 the value 1 (R2). -/
theorem strapNumber_val (stn1 stn0 : Bool) : (strapNumber stn1 stn0).val = 2 * stn1.toNat + stn0.toNat := by
  cases stn1 <;> cases stn0 <;> rfl

/-! ## The slot -/

/-- A frame entering the slot: it takes an empty one, or displaces the occupant, which is reported and gives its
health field on (R20). -/
theorem State.putInSlot_cases (s : State) (f : ShareFrame) :
    (s.sbi.slot = none ∧ s.putInSlot f = { s with sbi := { s.sbi with slot := some f } })
    ∨ ∃ old, s.sbi.slot = some old
        ∧ s.putInSlot f = { s.reportOverwrite with sbi := { s.sbi with slot := some (f.withHealthOf old) } } := by
  cases h : s.sbi.slot with
  | none => exact .inl ⟨rfl, by simp [State.putInSlot, h]⟩
  | some old => exact .inr ⟨old, rfl, by simp [State.putInSlot, h]⟩

/-- The frame in the slot starts: it leaves the slot and is in flight (R21). -/
theorem State.startPending_cases (s : State) :
    (s.sbi.slot = none ∧ s.startPending = s)
    ∨ ∃ f, s.sbi.slot = some f
        ∧ s.startPending = { s with sbi := { s.sbi with slot := none, inFlight := some f, phase := .driving } } := by
  cases h : s.sbi.slot with
  | none => exact .inl ⟨rfl, by simp [State.startPending, h]⟩
  | some f => exact .inr ⟨f, rfl, by simp [State.startPending, h]⟩

/-! ## Sets of stations -/

theorem mem_allStations (n : Station) : n ∈ allStations := by
  revert n
  decide

theorem allStations_nodup : allStations.Nodup := by decide

theorem mem_stationsOf {mask : Word} {n : Station} : n ∈ stationsOf mask ↔ mask.getLsbD n.val = true := by
  simp [stationsOf, mem_allStations]

theorem State.expected_nodup (s : State) : s.expected.Nodup := List.Nodup.filter _ allStations_nodup

theorem State.mem_expectedPeers (s : State) {n : Station} :
    n ∈ s.expectedPeers ↔ (s.word Idx.mask).getLsbD n.val = true ∧ n ≠ s.own := by
  simp [State.expectedPeers, State.expected, mem_stationsOf]

theorem mem_participantsOf {own : Station} {entries : List ViewEntry} {n : Station} :
    n ∈ participantsOf own entries ↔ n = own ∨ ∃ e ∈ entries, e.station = n ∧ e.cls.participates = true := by
  simp [participantsOf, mem_allStations]

theorem mem_reservedOf {entries : List ViewEntry} {n : Station} :
    n ∈ reservedOf entries ↔ ∃ e ∈ entries, e.station = n ∧ e.cls.participates = false := by
  simp [reservedOf, mem_allStations]

theorem reservedOf_nodup (entries : List ViewEntry) : (reservedOf entries).Nodup := List.Nodup.filter _ allStations_nodup

theorem participantsOf_nodup (own : Station) (entries : List ViewEntry) : (participantsOf own entries).Nodup :=
  List.Nodup.filter _ allStations_nodup

/-- FRESH and GRACE are the classes of a participant, LOST and NEVER those of a reserved peer (R51, R52). -/
theorem AgeClass.participates_iff (c : AgeClass) : c.participates = true ↔ c = .fresh ∨ c = .grace := by
  cases c <;> simp [AgeClass.participates]

theorem AgeClass.not_participates_iff (c : AgeClass) : c.participates = false ↔ c = .lost ∨ c = .never := by
  cases c <;> simp [AgeClass.participates]

/-- The participant peers of a view: the FRESH and GRACE entries that hold a record (R51). -/
theorem PeriodView.mem_peers {v : PeriodView} {n : Station} {r : PeerRecord} :
    (n, r) ∈ v.peers ↔ ∃ e ∈ v.entries, e.station = n ∧ e.cls.participates = true ∧ e.record = some r := by
  unfold PeriodView.peers
  rw [List.mem_filterMap]
  constructor
  · rintro ⟨e, he, h⟩
    refine ⟨e, he, ?_⟩
    unfold ViewEntry.participant at h
    cases hp : e.cls.participates <;> cases hr : e.record <;> simp [hp, hr] at h
    exact ⟨h.1, rfl, by simp [h.2]⟩
  · rintro ⟨e, he, hs, hp, hr⟩
    exact ⟨e, he, by simp [ViewEntry.participant, hp, hr, hs]⟩

/-! ## Signs and ranges -/

theorem Sign.apply_natAbs_le (g : Sign) (n : Nat) : (g.apply n).natAbs ≤ n := by
  cases g <;> simp [Sign.apply]

theorem Sign.ofInt_apply (i : Int) : (Sign.ofInt i).apply i.natAbs = i := by
  unfold Sign.ofInt
  split
  · show -(i.natAbs : Int) = i
    omega
  · split
    · simp only [Sign.apply, *]
    · show (i.natAbs : Int) = i
      omega

theorem growTo_le (cap v n : Nat) : growTo cap v n ≤ cap := Nat.min_le_left _ _

theorem holdNat_bounds {lo hi : Nat} (h : lo ≤ hi) (v : Nat) : lo ≤ holdNat lo hi v ∧ holdNat lo hi v ≤ hi := by
  unfold holdNat
  omega

theorem holdInt_bounds {lo hi : Int} (h : lo ≤ hi) (v : Int) : lo ≤ holdInt lo hi v ∧ holdInt lo hi v ≤ hi := by
  unfold holdInt
  omega

/-! ## Line coding -/

@[simp] theorem shareByteLevels_length (x : Byte) : (shareByteLevels x).length = 10 := rfl

@[simp] theorem inverterByteLevels_length (x : Byte) : (inverterByteLevels x).length = 10 := rfl

/-- Ten bit times to the byte. -/
theorem ShareFrame.levels_length (f : ShareFrame) : f.levels.length = 10 * f.bytes.length := by
  simp [ShareFrame.levels, List.length_flatMap, Nat.mul_comm]

@[simp] theorem byteOfBits_byteBits : ∀ x : Byte, byteOfBits (byteBits x) = x := by decide +kernel

/-- A byte that a station sends is the next a receiver collects, and the collection goes on after its stop bit. -/
@[simp] theorem collectAfter_shareByteLevels (idle : Nat) (x : Byte) (rest : List Bool) :
    collectAfter idle (shareByteLevels x ++ rest) = x :: collectAfter 0 rest := by
  show byteOfBits (byteBits x) :: collectAfter 0 rest = x :: collectAfter 0 rest
  rw [byteOfBits_byteBits]

/-- Fewer than 8 idle bit times after a stop bit do not end a frame. -/
theorem collectAfter_idle (n idle : Nat) (h : idle + n < 8) (rest : List Bool) :
    collectAfter idle (List.replicate n true ++ rest) = collectAfter (idle + n) rest := by
  induction n generalizing idle with
  | zero => rfl
  | succ n ih =>
    show (if idle < 7 then collectAfter (idle + 1) (List.replicate n true ++ rest) else []) = _
    rw [if_pos (by omega), ih (idle + 1) (by omega)]
    congr 1
    omega

/-- 8 idle bit times after a stop bit end it, whatever follows. -/
theorem collectAfter_gap (rest : List Bool) : collectAfter 0 (List.replicate 8 true ++ rest) = [] := rfl

/-- The first start bit begins the collection. -/
theorem collectBytes_of_start (rest : List Bool) :
    collectBytes (false :: rest) = collectAfter 0 (false :: rest ++ List.replicate 9 true) := rfl

/-! ## The bits of the local port -/

@[simp] theorem wordBits_length (w : Word) : (wordBits w).length = 16 := by simp [wordBits]

/-- SDO carries the reply's words bit by bit, bit 15 first, then 0. -/
theorem LocalPort.sdoAt_word (p : LocalPort) (k j : Nat) (h : j < 16) :
    p.sdoAt (16 * k + j) = (p.reply.getD k 0).getLsbD (15 - j) := by
  unfold LocalPort.sdoAt
  rw [show (16 * k + j) / 16 = k by omega, show (16 * k + j) % 16 = j by omega]

@[simp] theorem InverterLine.idle_seq (l : InverterLine) : l.idle.seq = l.seq := rfl

@[simp] theorem InverterLine.idle_line (l : InverterLine) : l.idle.line = none := rfl

@[simp] theorem InverterLine.idle_levelAt (l : InverterLine) (n : Nat) : l.idle.levelAt n = true := rfl

end Sys2Proof.Machine
end

