-- ==== Sys2Proof/Tests/Slice0.lean ====
section
/-! SUPPORT. Tests. Part 1: the well-formedness checks and the layouts. Part 2: one step per command, each with a
value of the manual. Part 3: a witness for the hypotheses of every obligation that has some. The expected values
are those of the manual's tables and worked examples, or are worked out from its formulas by hand. -/

namespace Sys2Proof.Tests
open Sys2Proof Sys2Proof.Machine

set_option Elab.async false

/-- The state a command answers (the state itself where it answers none; no command does that). -/
def after (c : Instr) (s : State) : State :=
  match exec c s with
  | .next t => t
  | .fault _ => s
  | .refused _ => s

/-- The raised flags of a state as a number (R201). -/
def flagsOf (s : State) : Nat := s.hu.flags.toNat

/-- A frame of peer 1: RUN, demand 3000, capacities 1500 and 1000, rise step 30. -/
def peerFrame : ShareFrame where
  sender := 1
  seq := 37
  state := .run
  basis := .normal
  interval := .one
  health := .empty
  mode := .road
  slipFlag := false
  tag := 0
  demand := 3000
  applied := 0
  driveCapacity := 1500
  regenCapacity := 1000
  axleSpeed := 0
  riseStep := 30
  echoes := []
  digest := none

/-- A record of a frame at age 0, with digest 1234h. -/
def recordOf (f : ShareFrame) : PeerRecord := ⟨f, some 0x1234, f.seq, 0, 0⟩

/-- A state of the default two-station vehicle: station 0, a store locked with digest 1234h, the given life-cycle
state and stage, and peer 1 FRESH with the given frame in table and view. -/
def live (l : LifeState) (stage : Stage) (f : ShareFrame) : State :=
  { State.reset with
    stage := stage
    ctl := { Control.reset 0 with state := l }
    ps := { words := defaultWords, locked := true, digest := some 0x1234 }
    lp := { LocalPort.reset 7000 3000 with demand := 3000, demandAge := 0 }
    slu := { SlipUnit.reset with tl := 7000, sign := .positive }
    pt := {
      entries := [⟨1, some (recordOf f), .fresh⟩]
      disCounter := 0
      disEstablished := false
      view := { PeriodView.reset 7000 3000 with
        entries := [⟨1, .fresh, some (recordOf f)⟩], demand := 3000, demandAge := 0, participants := [0, 1] } } }

/-- The store word i of a state replaced. -/
def withWord (s : State) (i : Nat) (w : Word) : State := { s with ps := s.ps.write i w }

/-- A held part of the view replaced. -/
def withView (s : State) (f : PeriodView → PeriodView) : State := { s with pt := { s.pt with view := f s.pt.view } }

/-! ## 1. Well-formedness, layouts -/

theorem test_wellFormed_accepts :
    [Instr.rstnAssert, .unknownCommand 0x04 0 [], .periodTimerExpiry 1000, .frameReceived [0],
      .parameterWordTaken 1 0].all Instr.wellFormed = true := by decide

theorem test_wellFormed_refuses_a_named_code : (Instr.unknownCommand 0x33 0 []).wellFormed = false := by decide

theorem test_wellFormed_refuses_a_long_expiry : (Instr.periodTimerExpiry 1001).wellFormed = false := by decide

theorem test_wellFormed_refuses_a_long_pulse : (Instr.wheelPulse .wheel0 1001).wellFormed = false := by decide

theorem test_wellFormed_refuses_no_bytes : (Instr.frameReceived []).wellFormed = false := by decide

theorem test_wellFormed_refuses_a_word_beyond_count_0 : (Instr.parameterWordTaken 0 5).wellFormed = false := by decide

/-- The transactions of R173 to R186, written out as words. -/
theorem test_decode_transactions :
    [[0x0100#16, 4, 4], [0x0201, 7], [0x0303], [0x1000], [0x1100], [0x1F00], [0x2001, 3000], [0x2101, 5, 6], [0x3000],
      [0x3100], [0x3201], [0x3300], [0x0405], []].map decodeTransaction
    = [.setWindow 0 [4, 4], .writeWords 1 [7], .readWords 3 [], .start 0 [], .stop 0 [], .resetStation 0 [],
      .setDemand 1 [3000], .setLimits 1 [5, 6], .readStatus 0 [], .readSnapshot 0 [], .readPeer 1 [], .readDiag 0 [],
      .unknownCommand 4 5 [], .incompleteTransaction] := by decide

/-- R202: the nine bytes 31h to 39h give 29B1h. -/
theorem test_check_code :
    checkCode [0x31, 0x32, 0x33, 0x34, 0x35, 0x36, 0x37, 0x38, 0x39] = 0x29B1 := by decide +kernel

/-- The worked example of 11.1: bytes 0 to 4, byte 16 and the length. -/
theorem test_frame_bytes :
    let f : ShareFrame := { peerFrame with
      seq := 32, health := ⟨false, true⟩, mode := .tow, echoes := [⟨0, 3⟩], digest := some 0xABCD }
    f.bytes.take 5 = [0x01, 0x81, 0x20, 0x42, 0x40] ∧ f.bytes.getD 16 0 = 0x03
      ∧ (f.bytes.drop 17).take 2 = [0xAB, 0xCD] ∧ f.bytes.length = 21 := by decide +kernel

/-- R18, R165, R200: byte 01h as its ten levels on the share bus (most significant bit first) and on ICLTX (least
significant bit first); the byte read back; a byte whose stop bit is dominant ends the collection; 7 idle bit times within a frame do not, 8 do. -/
theorem test_line_levels :
    shareByteLevels 0x01 = [false, false, false, false, false, false, false, false, true, true]
    ∧ inverterByteLevels 0x01 = [false, true, false, false, false, false, false, false, false, true]
    ∧ collectBytes (shareByteLevels 0x42 ++ shareByteLevels 0xA5) = [0x42, 0xA5]
    ∧ collectBytes ((shareByteLevels 0x42).take 9 ++ [false] ++ shareByteLevels 0xA5) = [0x42]
    ∧ collectBytes (shareByteLevels 0x42 ++ List.replicate 7 true ++ shareByteLevels 0xA5) = [0x42, 0xA5]
    ∧ collectBytes (shareByteLevels 0x42 ++ List.replicate 8 true ++ shareByteLevels 0xA5) = [0x42] := by decide +kernel

/-- R170, R171, R201: READ_WORDS of 5 words, 0305h, as its bits on SDI with three bits beyond; the reply word 0430h on
SDO, and 0 after it. -/
theorem test_port_bits :
    let bits := [false, false, false, false, false, false, true, true, false, false, false, false, false, true, false, true]
    wordBits 0x0305 = bits ∧ decodeBits (bits ++ [true, true, true]) = .readWords 5 []
    ∧ decodeBits (bits.take 15) = .incompleteTransaction
    ∧ (let p : LocalPort := { LocalPort.reset 0 0 with reply := [0x0430] }
       (List.range 20).map p.sdoAt = [false, false, false, false, false, true, false, false, false, false, true, true,
         false, false, false, false, false, false, false, false]) := by decide +kernel

/-- R165: the inverter line is idle before the period's publication, then carries the frame's 80 levels, then is idle. -/
theorem test_inverter_line :
    let l : InverterLine := ⟨1, some (inverterFrame 0 .run 0 true (-677))⟩
    InverterLine.reset.levelAt 0 = true ∧ l.levels.length = 80 ∧ l.levelAt 0 = false ∧ l.levelAt 80 = true
    ∧ (after (.periodTimerExpiry 1000) { State.reset with icl := l }).icl.line = none := by decide +kernel

/-- The wheel conversions of 8.2 and 8.6. -/
theorem test_conversions :
    [(3072, 2572), (3072, 2700), (3072, -2032), (3072, 2), (3072, 1), (2048, 3), (2048, -3), (2816, 2357)].map
      (fun p : Nat × Int => toMotor p.1 p.2) = [857, 900, -677, 1, 0, 2, -2, 857]
    ∧ toWheel 8192 4000 = 20000 ∧ toWheel 8192 (-4000) = -20000
    ∧ holdPeak 2400 (toMotor 3072 7500) = (2400, true) ∧ toWheel 3072 857 = 2571 ∧ toWheel 2816 2 = 6 := by
  decide +kernel

/-- Worked cases 1 and 4 of chapter 6, and trims of 6.2. -/
theorem test_water_fill :
    waterFill [⟨0, 40, 3000⟩, ⟨1, 30, 1500⟩, ⟨2, 30, 2600⟩] 6000
      = ⟨[(1, 1500), (0, 2572), (2, 1928)], 0⟩
    ∧ trimDemand (-2501) 3 = -2032 := by decide +kernel

/-! ## 2. One step per command -/

/-- R2, R8: STN1 high and STN0 low give station 2, and store word 2 shows it. -/
theorem test_power_on_reset :
    (after (.powerOnReset true false) (live .run .hold peerFrame)).word 2 = 2
    ∧ (after (.powerOnReset true false) (live .run .hold peerFrame)).ctl.state = .config := by decide +kernel

theorem test_rstn_assert :
    (after .rstnAssert (live .run .hold peerFrame)).active = false
    ∧ (after .rstnAssert (live .run .hold peerFrame)).stage = .none := by decide +kernel

theorem test_rstn_release :
    (after (.rstnRelease false true) (withWord { live .run .hold peerFrame with rstnHigh := false } 4 7)).word 4 = 3
    ∧ (after (.rstnRelease false true) { State.reset with rstnHigh := false }).own = 1 := by decide +kernel

theorem test_supply_invalid : (after .supplyOrClockInvalid State.reset).active = false := by decide +kernel

/-- R5: the store word stands and the store is unlocked. -/
theorem test_reset_station :
    (after (.resetStation 0 []) (withWord (live .run .hold peerFrame) 4 7)).word 4 = 7
    ∧ (after (.resetStation 0 []) (live .run .hold peerFrame)).ps.locked = false := by decide +kernel

/-- 9.7, transactions 1 and 4: a station strapped 2 outside the mask, and a ratio of 9000. -/
theorem test_start_refused :
    let s := { State.reset with ctl := Control.reset 2 }
    let a := (after (.start 0 []) s).ctl
    let b := (after (.start 0 []) (withWord (withWord s 4 7) 138 9000)).ctl
    (a.refusalCode, a.refusalIndex) = (1, 4) ∧ (b.refusalCode, b.refusalIndex) = (3, 138) := by decide +kernel

/-- 9.7, transaction 6: the accepted START sets the table up for peers 0 and 1. -/
theorem test_start_accepted :
    let s := withWord { State.reset with ctl := Control.reset 2 } 4 7
    (after (.start 0 []) s).ctl.state = .listen
    ∧ (after (.start 0 []) s).pt.entries.map (fun e => e.station) = [0, 1] := by decide +kernel

theorem test_stop_from_run :
    (after (.stop 0 []) (live .run .none peerFrame)).ctl.state = .stopping
    ∧ (after (.stop 0 []) (live .run .none peerFrame)).ctl.stopCause = .host := by decide +kernel

theorem test_set_window :
    (after (.setWindow 0 [138, 138]) State.reset).lp.cursor = 138
    ∧ flagsOf (after (.setWindow 0 [5, 4]) State.reset) = 1 := by decide +kernel

/-- 9.7, transactions 2 and 7: the mask 7 is written in CONFIG and refused in LISTEN. -/
theorem test_write_words :
    (after (.writeWords 1 [7]) { State.reset with lp := { State.reset.lp with first := 4, last := 4, cursor := 4 } }).word 4
      = 7
    ∧ flagsOf (after (.writeWords 1 [3]) (live .listen .none peerFrame)) = 1 := by decide +kernel

theorem test_parameter_word_passes_word_0 :
    (after (.parameterWordTaken 2 9) State.reset).word 0 = 0x0430
    ∧ (after (.parameterWordTaken 2 9) State.reset).lp.cursor = 1 := by decide +kernel

theorem test_read_words_identity :
    (after (.readWords 5 []) State.reset).lp.reply = [0x0430, 1, 0, 1, 3] := by decide +kernel

theorem test_set_demand_held :
    (after (.setDemand 1 [BitVec.ofInt 16 (-9000)]) State.reset).lp.demand = -8000
    ∧ flagsOf (after (.setDemand 1 [BitVec.ofInt 16 (-9000)]) State.reset) = 4 := by decide +kernel

theorem test_set_limits_held :
    (after (.setLimits 1 [7001, BitVec.ofInt 16 (-1)]) State.reset).lp.driveLimit = 7000
    ∧ (after (.setLimits 1 [7001, BitVec.ofInt 16 (-1)]) State.reset).lp.regenLimit = 0 := by decide +kernel

/-- R201: RUN, NORMAL, cause NONE, code 0, interval 1, no handover. -/
theorem test_read_status : (after (.readStatus 0 []) (live .run .none peerFrame)).lp.reply = [0x4000, 0] := by
  decide +kernel

/-- 9.5: a transaction of two words sends two words of the burst and loses the rest. -/
theorem test_read_snapshot :
    (after (.readSnapshot 0 []) State.reset).lp.reply.length = 17
    ∧ (after (.setDemand 1 [3000]) { State.reset with lp := { State.reset.lp with reply := [8, 9, 10] } }).lp.sdo
      = [8, 9] := by decide +kernel

theorem test_read_peer :
    (after (.readPeer 1 []) (live .run .none peerFrame)).lp.reply.take 5 = [0x1800, 0, 0, 0x1234, 0x0100]
    ∧ (after (.readPeer 0 []) (live .run .none peerFrame)).lp.reply = List.replicate 14 0 := by decide +kernel

/-- 10.5: the first read returns DEMAND_STALE and FRAME_REJECT with FRAME_REJECT and MISSED at 1, and clears. -/
theorem test_read_diag :
    let s := { State.reset with hu := { HealthUnit.reset with flags := 0x8040, frameReject := 1, missed := 1 } }
    (after (.readDiag 0 []) s).lp.reply = [0x8040, 1, 0, 0, 1, 0]
    ∧ (after (.readDiag 0 []) s).hu = HealthUnit.reset := by decide +kernel

theorem test_unknown_command : flagsOf (after (.unknownCommand 4 0 []) State.reset) = 1 := by decide +kernel

theorem test_incomplete_transaction :
    (after .incompleteTransaction { State.reset with lp := { State.reset.lp with reply := [8] } }).lp.reply = []
    ∧ flagsOf (after .incompleteTransaction State.reset) = 0 := by decide +kernel

/-- 4.2, a wheel that stops: pulses every 7800 µs, the speed at 10000 µs after the last, and at 251000 µs. -/
theorem test_timer_expiry_speed :
    let w : WheelHistory := ⟨some 0, some 7800, 5, false, 0, false⟩
    let s := { State.reset with wsu := { WheelUnit.reset with wheel0 := w } }
    (after (.periodTimerExpiry 10000) s).wsu.sample.speed0 = 299
    ∧ (after (.periodTimerExpiry 251000) s).wsu.sample.speed0 = 0 := by decide +kernel

theorem test_timer_expiry_counts :
    (after (.periodTimerExpiry 1000) State.reset).periodCount = 1
    ∧ (after (.periodTimerExpiry 1000) State.reset).stage = .sample := by decide +kernel

/-- R45 with the defaults S 3 and G 5: at age 4 a peer at interval 1 is GRACE. -/
theorem test_view_latch_class :
    let s := live .run .sample peerFrame
    let r := recordOf peerFrame
    let classAt (age : Nat) := (after .viewLatch
      { s with pt := { s.pt with entries := [⟨1, some { r with age := age }, .fresh⟩] } }).pt.view.entries.map (·.cls)
    classAt 2 = [.fresh] ∧ classAt 3 = [.grace] ∧ classAt 8 = [.lost] := by decide +kernel

/-- 4.7: 448 q4 over a reference of 6144 q8 is 166 per mille, above the default S_on: the flag is set. -/
theorem test_slip_evaluation :
    let s := live .run .view { peerFrame with axleSpeed := 384 }
    let s := { s with slu := { s.slu with reference := 6144 }, wsu := { s.wsu with sample := { s.wsu.sample with filtered := 448 } } }
    (after .slipEvaluation s).slu.ratio = 166 ∧ (after .slipEvaluation s).slu.flag = true := by decide +kernel

/-- The state of 7.8 at the opening step: the drive limit has fallen from 7000 to 1800 at an applied torque of 2571. -/
def falling : State :=
  let s := withView (live .run .slip peerFrame) (fun v => { v with driveLimit := 1800 })
  { s with
    csh := { s.csh with command := 857, applied := 2571 }
    hou := { s.hou with prevLimits := some (7000, 3000) } }

theorem test_handover_opens :
    (after .handoverStep falling).hou.published = some 2571
    ∧ ((after .handoverStep falling).hou.record.map (fun r => (r.tag, r.target, r.peers)))
      = some (1, 1800, [(1, .awaiting)]) := by decide +kernel

/-- Equal weights, 3000 N·m, peer capacity 1500: half for each. -/
theorem test_allocation :
    (after .allocationComputation (live .run .hold peerFrame)).ale.aSelf = 1500
    ∧ (after .allocationComputation (live .run .hold peerFrame)).ale.shortfall = 0 := by decide +kernel

/-- The target 857 from 817 is reached by a rise step of 40; the applied torque is 2571 (8.6). -/
theorem test_command_shaping :
    let s := live .run .share peerFrame
    let s := { s with ale := { s.ale with aSelf := 2572 }, csh := { s.csh with command := 817 } }
    (after .commandShaping s).csh = ⟨857, 2571, 857, .atTarget, false, false⟩ := by decide +kernel

/-- R200: the first six bytes of the inverter frame of station 0 in RUN, command −677, which is FD5Bh. -/
theorem test_inverter_frame :
    (inverterFrame 0 .run 0 true (-677)).take 6 = [0, 2, 0, 1, 0xFD, 0x5B] := by decide +kernel

theorem test_pmk_pulse_end :
    (after .pmkPulseEnd { State.reset with hu := { HealthUnit.reset with pmk := true, pmkLeft := 2 } }).hu.pmk
      = false := by decide +kernel

/-- R62: the interval between two pulses, 7800 µs, across the wrap of the 1 µs count. -/
theorem test_wheel_pulse :
    let w : WheelHistory := { WheelHistory.reset with lastTime := some 0xFFFFFFFF, pulses := 1 }
    let s := { State.reset with wsu := { WheelUnit.reset with usCount := 0xFFFFFFFF, wheel1 := w } }
    (after (.wheelPulse .wheel1 7800) s).wsu.wheel1.delta = some 7800
    ∧ (after (.wheelPulse .wheel1 7800) s).wsu.wheel1.pulses = 2 := by decide +kernel

/-- A live station with a frame in its slot, and one with a frame in flight. -/
def waiting : State := let s := live .run .none peerFrame; { s with sbi := { s.sbi with slot := some { peerFrame with sender := 0 } } }

def sending : State :=
  let s := live .run .none peerFrame
  { s with sbi := { s.sbi with inFlight := some { peerFrame with sender := 0 }, phase := .driving } }

theorem test_gap_starts_the_frame :
    (after .interframeGap waiting).sbi.slot = none ∧ (after .interframeGap waiting).sbi.inFlight.isSome = true := by
  decide +kernel

theorem test_start_bit_keeps_the_slot : (after .firstStartBitAfterGap waiting).sbi.slot.isSome = true := by
  decide +kernel

theorem test_contention_lost :
    (after .contentionLost sending).sbi.slot = sending.sbi.inFlight
    ∧ flagsOf (after .contentionLost sending) = 0 := by decide +kernel

theorem test_tx_error :
    (after .txError sending).hu.txErrors = 1 ∧ (after .txError sending).sbi.latch = ⟨true, false⟩ := by decide +kernel

theorem test_frame_tx_complete : (after .frameTxComplete sending).sbi.inFlight = none := by decide +kernel

/-- 10.5: frame 42 after frame 40 has the gap 1. -/
theorem test_frame_received_gap :
    (after (.frameReceived { peerFrame with seq := 39 }.bytes) (live .run .none peerFrame)).hu.missed = 1
    ∧ ((after (.frameReceived { peerFrame with seq := 39 }.bytes) (live .run .none peerFrame)).pt.recordOf 1).map
        (fun r => (r.lastSeq, r.digest, r.missed)) = some (39, some 0x1234, 1) := by decide +kernel

theorem test_frame_received_bad :
    let s := after (.frameReceived ((0x11#8) :: peerFrame.bytes.drop 1)) (live .run .none peerFrame)
    s.hu.frameReject = 1 ∧ s.sbi.latch = ⟨false, true⟩ := by decide +kernel

/-! ## 3. Witnesses: states and operands that meet the hypotheses of the obligations -/

/-- Every command answers the state `after` names: it meets each hypothesis that exec answers a next state. -/
theorem exec_after (c : Instr) (s : State) : exec c s = .next (after c s) := by cases c <;> rfl

/-- A state whose queue holds c alone. -/
def queued (c : Instr) (s : State) : State := { s with pending := [c] }

theorem step_queued (c : Instr) (s : State) : step (queued c s) = .next (after c { s with pending := [] }) := by
  cases c <;> rfl

/-- The life-cycle state of a live station replaced. -/
def inState (l : LifeState) : State := live l .none peerFrame

theorem witness_SupplyAndReleaseEndTheReset :
    (0 : Station).val = 2 * false.toNat + false.toNat ∧ (3 : Station).val = 2 * true.toNat + true.toNat
    ∧ State.reset.supplyValid = true ∧ (after .supplyOrClockInvalid State.reset).supplyValid = false := by
  decide +kernel

theorem witness_ResetEventsHoldTheStation :
    (after .rstnAssert State.reset).active = false ∧ supplyEvent (.start 0 []) = false := by decide +kernel

theorem witness_ResetStationKeepsStoreAndStrap :
    (inState .run).active = true ∧ (inState .config).active = true := by decide +kernel

theorem witness_ValidationReportsTheFirstFailure :
    [(4, 16), (5, 999), (53, 256), (54, 8), (117, 8), (118, 0), (133, 0x080D), (148, 2001), (4, 2), (4, 1),
      (137, 51)].map (fun p : Nat × Nat => (withWord State.reset p.1 (BitVec.ofNat 16 p.2)).validate)
    = [some (3, 4), some (3, 5), some (3, 53), some (4, 54), some (4, 117), some (5, 118), some (5, 133),
      some (3, 148), some (1, 4), some (2, 4), some (3, 137)]
    ∧ (withWord (withWord State.reset 22 0) 23 0).validate = some (6, 22)
    ∧ (withWord (withWord (withWord State.reset 50 0) 51 0) 117 7).validate = some (6, 50)
    ∧ State.reset.validate = none
    ∧ (withWord State.reset 11 119).outOfRange 11 = false ∧ (withWord State.reset 11 120).outOfRange 11 = true
    ∧ (withWord State.reset 136 (BitVec.ofInt 16 (-50))).outOfRange 136 = false
    ∧ (withWord State.reset 136 (BitVec.ofInt 16 (-51))).outOfRange 136 = true := by decide +kernel

theorem witness_AcceptedStartEntersListen :
    State.reset.active = true ∧ State.reset.ctl.state = .config ∧ State.reset.validate = none := by decide +kernel

/-- A station stopped by a duplicate, in the given state. -/
def duplicated (l : LifeState) : State :=
  { inState l with ctl := { (inState l).ctl with dupLatch := true, stopCause := .duplicate } }

theorem witness_StartRefusedOrOutsideConfig :
    (withWord State.reset 4 1).validate = some (2, 4) ∧ (withWord State.reset 4 1).active = true
    ∧ ([LifeState.listen, .run, .stopping, .stopped].all fun l =>
        (inState l).active && decide ((inState l).ctl.state = l) && !(inState l).ctl.dupLatch) = true
    ∧ (duplicated .stopped).active = true ∧ (duplicated .stopped).ctl.dupLatch = true := by decide +kernel

theorem witness_StopActsByState :
    ([LifeState.config, .listen, .run, .stopping, .stopped].all fun l =>
      (inState l).active && decide ((inState l).ctl.state = l)) = true := by decide +kernel

theorem witness_LifeCycleMoves :
    exec .rstnAssert (inState .run) = .next (after .rstnAssert (inState .run)) := exec_after _ _

theorem witness_ReplyIsSentDuringTheNextTransaction :
    State.reset.active = true ∧ State.reset.lp.wordsTaken = 0
    ∧ commandCode 0x2001 ∉ [0x03#8, 0x30#8, 0x31#8, 0x32#8, 0x33#8] := by decide +kernel

theorem witness_TransactionRoundTrip :
    (Instr.readWords 255 []).wellFormed = true
    ∧ encodeTransaction (.readWords 255 []) = some [0x03FF]
    ∧ (0x04#8) ∉ [0x01#8, 0x02#8, 0x03#8, 0x10#8, 0x11#8, 0x1F#8, 0x20#8, 0x21#8, 0x30#8, 0x31#8, 0x32#8, 0x33#8]
    ∧ (transactionWords (List.replicate 33 true))[1]? = some 0xFFFF := by decide

theorem witness_SetWindowSetsWindowAndCursor :
    State.reset.active = true ∧ (4 : Word).toNat < (5 : Word).toNat ∧ 148 < (149 : Word).toNat
    ∧ (148 : Word).toNat ≤ (148 : Word).toNat ∧ (0 : Word).toNat ≤ (148 : Word).toNat := by decide +kernel

/-- The cursor of the reset state replaced; its window is 0..148. -/
def atCursor (n : Nat) : State := { State.reset with lp := { State.reset.lp with cursor := n } }

theorem witness_ParameterWordActsAtTheCursor :
    exec (.parameterWordTaken 1 7) (atCursor 4) = .next (after (.parameterWordTaken 1 7) (atCursor 4))
    ∧ ([3, 4, 148, 149].all fun n => (atCursor n).active && decide ((atCursor n).ctl.state = .config)
      && decide ((atCursor n).lp.wordsTaken < (1 : Byte).toNat) && decide ((atCursor n).lp.last = 148)) = true
    ∧ (inState .listen).ctl.state ≠ .config ∧ (0 : Byte).toNat ≤ (atCursor 4).lp.wordsTaken
    ∧ [(7 : Word)][(atCursor 4).lp.wordsTaken]? = some 7 :=
  ⟨exec_after _ _, by decide +kernel⟩

theorem witness_WriteWordsStoresItsWords :
    ([0, 4, 148, 149].all fun n => (atCursor n).active && decide ((atCursor n).ctl.state = .config)
      && decide ((atCursor n).lp.wordsTaken = 0) && !(atCursor n).lp.overrun
      && decide ((atCursor n).lp.cursor ≤ (atCursor n).lp.last + 1) && decide ((atCursor n).lp.last ≤ 148)
      && decide ((atCursor n).hu.storeOverrun ≤ 65535)) = true := by decide +kernel

theorem witness_StoreChangesOnlyByItsWriters :
    exec (.writeWords 1 [7]) (atCursor 4) = .next (after (.writeWords 1 [7]) (atCursor 4))
    ∧ (after (.writeWords 1 [7]) (atCursor 4)).word 4 ≠ (atCursor 4).word 4
    ∧ (after (.powerOnReset true true) (atCursor 4)).ctl.strap ≠ (atCursor 4).ctl.strap :=
  ⟨exec_after _ _, by decide +kernel⟩

theorem witness_ReadWordsReadsFromTheCursor :
    ([0, 148, 149].all fun n => (atCursor n).active
      && decide ((atCursor n).lp.cursor ≤ (atCursor n).lp.last + 1)) = true := by decide +kernel

theorem witness_SetDemandStoresTheHeldDemand :
    State.reset.active = true ∧ 3 < (4 : Byte).toNat ∧ Mode.crawl.code = (3 : Byte).toNat := by decide +kernel

theorem witness_SetLimitsStoresTheHeldLimits :
    State.reset.active = true ∧ 1 < (2 : Byte).toNat ∧ [(5 : Word)].length < 2 ∧ (1 : Byte).toNat ≤ 1 := by
  decide +kernel

theorem witness_ReadStatusReportsItsFields :
    let s := { State.reset with ctl := { State.reset.ctl with refusalCode := 6, refusalIndex := 50 } }
    s.active = true ∧ s.ctl.refusalCode ≤ 6 := by decide +kernel

theorem witness_ReadSnapshotAndReadDiag : State.reset.active = true := by decide +kernel

theorem witness_ReadPeerReportsTheRecord :
    let s := inState .run
    let never := after (.start 0 []) State.reset
    s.active = true ∧ s.pt.entries.find? (fun e => e.station.val == (4 : Byte).toNat) = none
    ∧ s.pt.entries.find? (fun e => e.station.val == (1 : Byte).toNat)
      = some ⟨1, some (recordOf peerFrame), .fresh⟩
    ∧ never.active = true
    ∧ never.pt.entries.find? (fun e => e.station.val == (1 : Byte).toNat) = some ⟨1, none, .never⟩ := by
  decide +kernel

theorem witness_BadTransactionsRaisePortFault :
    (inState .run).active = true ∧ (0x04 : Byte) ∉ commandCodes ∧ (0xFF : Byte) ∉ commandCodes
    ∧ [(5 : Word)].length < 2 ∧ (inState .run).ctl.state ≠ .config
    ∧ (inState .run).lp.wordsTaken ≤ ([] : List Word).length := by decide +kernel

theorem witness_WheelPulseUpdatesItsWheel :
    let at0 (w : WheelHistory) : State := { State.reset with wsu := { WheelUnit.reset with wheel0 := w } }
    let w : WheelHistory := { WheelHistory.reset with lastTime := some 0, pulses := 1 }
    State.reset.active = true ∧ State.reset.wsu.wheel0.lastTime = none
    ∧ (at0 w).wsu.wheel0.lastTime = some 0 ∧ (at0 w).wsu.wheel0.expired = false
    ∧ (at0 { w with expired := true }).wsu.wheel0.expired = true := by decide +kernel

theorem witness_TimerExpiryBeginsThePeriod : State.reset.active = true := by decide +kernel

/-- Both wheels last pulsed at time 0, with the given pulse count and the interval 7800. -/
def rolling (pulses : Nat) : State :=
  let w : WheelHistory := { WheelHistory.reset with lastTime := some 0, delta := some 7800, pulses := pulses }
  { State.reset with wsu := { WheelUnit.reset with wheel0 := w, wheel1 := w } }

theorem witness_SampledSpeedsSilentWheelsAndFilter :
    exec (.periodTimerExpiry 250000) (rolling 2) = .next (after (.periodTimerExpiry 250000) (rolling 2))
    ∧ (rolling 2).active = true ∧ (rolling 1).wsu.wheel0.pulses < 2 ∧ 2 ≤ (rolling 2).wsu.wheel0.pulses
    ∧ (rolling 2).wsu.wheel0.lastTime = some 0 ∧ (rolling 2).wsu.wheel0.delta = some 7800
    ∧ (rolling 2).wsu.wheel0.expired = false
    ∧ (rolling 2).wsu.wheel1 = (rolling 2).wsu.wheel0 ∧ (rolling 1).wsu.wheel1 = (rolling 1).wsu.wheel0
    ∧ ((rolling 2).wsu.usCount + 250000 - 0).toNat ≤ 250000
    ∧ 250000 < ((rolling 2).wsu.usCount + 250001 - 0).toNat :=
  ⟨exec_after _ _, by decide +kernel⟩

/-- A station at the view latch, in the given state, whose peer's record has the given age. -/
def latching (l : LifeState) (age : Nat) : State :=
  let s := live l .sample peerFrame
  { s with pt := { s.pt with entries := [⟨1, some { recordOf peerFrame with age := age }, .fresh⟩] } }

theorem witness_ViewLatchAgesAndCopies :
    (latching .run 7).active = true ∧ (latching .run 7).stage = .sample ∧ (latching .run 7).ctl.state ≠ .config
    ∧ (let c := { State.reset with stage := .sample }
       c.active = true ∧ c.stage = .sample ∧ c.ctl.state = .config ∧ c.pt.entries = []) := by decide +kernel

/-- The peer demands 3000 and carries the digest 1234h: an own demand of 3200 lies within D_tol 200, 3201 does not;
an own digest of 1235h mismatches. -/
theorem witness_ViewLatchChecksDemandsAndDigests :
    let s := latching .run 0
    let far := { s with lp := { s.lp with demand := 3201 }, ps := { s.ps with digest := some 0x1235 } }
    let near := { s with lp := { s.lp with demand := 3200 } }
    (far.active = true ∧ far.stage = .sample ∧ far.ctl.state ≠ .config
      ∧ (after .viewLatch far).pt.disCounter = 1 ∧ (after .viewLatch far).pt.view.mismatch = true)
    ∧ (near.active = true ∧ near.stage = .sample ∧ (after .viewLatch near).pt.disCounter = 0
      ∧ (after .viewLatch near).pt.view.mismatch = false) := by decide +kernel

/-- Peer 1 passes to LOST at age 9; peer 2 is held to be heard at age 1. -/
def losing (peers : List (Station × HoPeer)) : State :=
  let s := withWord (latching .run 8) 4 7
  { s with
    pt := { s.pt with entries := s.pt.entries ++ [⟨2, some (recordOf { peerFrame with sender := 2 }), .fresh⟩] }
    hou := { s.hou with record := some ⟨1, .positive, 2571, 1800, 2571, 3, peers⟩ } }

theorem witness_LossOfAPeer :
    let s := losing [(1, .awaiting)]
    let t := losing [(1, .awaiting), (2, .absorbed)]
    (s.active = true ∧ s.stage = .sample ∧ s.ctl.state ≠ .config ∧ s.hou.record.isSome = true
      ∧ (after .viewLatch s).hu.flags.getLsbD 9 = true ∧ (after .viewLatch s).hou.record = none)
    ∧ (t.active = true ∧ t.stage = .sample
      ∧ (after .viewLatch t).hou.record = some ⟨1, .positive, 2571, 1800, 2571, 3, [(1, .excused), (2, .absorbed)]⟩)
    ∧ (latching .run 7).hou.record = none ∧ (after .viewLatch (latching .run 7)).hu.flags.getLsbD 9 = false := by
  decide +kernel

/-- A station at the evaluation with own speed v, peer speed 100 and the given demand; the flag starts as given. -/
def slipping (demand : Int) (v : Nat) (flag : Bool) (tl : TlState) : State :=
  let s := withView (live .run .view { peerFrame with axleSpeed := 100, demand := demand })
    (fun view => { view with demand := demand })
  { s with
    wsu := { s.wsu with sample := { s.wsu.sample with filtered := v } }
    csh := { s.csh with applied := 2571 }
    slu := { s.slu with
      reference := 1600, flag := flag, tlState := tl, tl := 2000, hold := 8, sign := Sign.ofInt demand } }

/-- The hysteresis at its four edges for each sign, from a clear and from a set flag. S_on is 120, S_hys 40. -/
theorem witness_SlipEvaluationMovesReferenceAndFlag :
    (slipping 3000 112 false .none).active = true ∧ (slipping 3000 112 false .none).stage = .view
    ∧ [((3000 : Int), 112, false), (3000, 111, false), (3000, 108, true), (3000, 107, true), (-3000, 88, false),
        (-3000, 89, false), (-3000, 92, true), (-3000, 93, true), (0, 112, true)].map (fun p =>
          let t := after .slipEvaluation (slipping p.1 p.2.1 p.2.2 .none)
          (t.slu.ratio, t.slu.flag))
      = [(120, true), (110, false), (80, true), (70, false), (-120, true), (-110, false), (-80, true), (-70, false),
        (120, false)] := by decide +kernel

/-- A rising edge from 2000; a flag that stays set in CUT at hold 8 and 9 of H_slip 10; a clear flag in CUT; NONE. -/
theorem witness_TractionLimitCutsHoldsAndRecovers :
    (slipping 3000 112 false .recover).active = true ∧ (slipping 3000 112 false .recover).stage = .view
    ∧ exec .slipEvaluation (slipping 3000 112 false .recover)
      = .next (after .slipEvaluation (slipping 3000 112 false .recover))
    ∧ (let t := fun s : State => (after .slipEvaluation s).slu
       let hold9 := slipping 3000 112 true .cut
       let hold9 := { hold9 with slu := { hold9.slu with hold := 9 } }
       let near (tl : Nat) : State :=
         let s := slipping 3000 100 false .recover
         { s with slu := { s.slu with tl := tl } }
       let turned := slipping (-3000) 100 false .cut
       let turned := { turned with slu := { turned.slu with sign := .positive } }
       ((t turned).sign = .negative ∧ (t turned).hold = 0 ∧ (t turned).tl = 3000)
       ∧ ((t (slipping 3000 112 false .recover)).tlState, (t (slipping 3000 112 false .recover)).tl) = (.cut, 1500)
       ∧ ((t (slipping 3000 112 true .cut)).hold, (t (slipping 3000 112 true .cut)).tl) = (9, 2000)
       ∧ ((t hold9).hold, (t hold9).tl) = (0, 1500)
       ∧ ((t (slipping 3000 100 true .cut)).tlState, (t (slipping 3000 100 true .cut)).tl) = (.recover, 2020)
       ∧ ((t (near 6979)).tlState, (t (near 6979)).tl) = (.recover, 6999)
       ∧ ((t (near 6980)).tlState, (t (near 6980)).tl) = (.none, 7000)
       ∧ ((t (slipping 3000 100 false .none)).tlState, (t (slipping 3000 100 false .none)).tl) = (.none, 7000)) :=
  ⟨by decide +kernel, by decide +kernel, exec_after _ _, by decide +kernel⟩

/-- The trigger at its edge: the target plus H_ho 300 must lie below the applied torque. -/
theorem witness_HandoverOpensOnItsTrigger :
    let s (applied : Int) : State := { falling with csh := { falling.csh with applied := applied } }
    (s 2101).active = true ∧ (s 2101).stage = .slip ∧ (s 2101).hou.record = none
    ∧ (after .handoverStep (s 2101)).hou.record.isSome = true
    ∧ (after .handoverStep (s 2100)).hou.record = none := by decide +kernel

/-- The state of `falling` with the record its step opened, before the step after it. -/
def opened (timer : Nat) (p : HoPeer) : State :=
  { falling with hou := { falling.hou with
      prevLimits := some (1800, 3000), tagCounter := 1, report := .opened
      record := some ⟨1, .positive, 2571, 1800, 2571, timer, [(1, p)]⟩ } }

/-- A running record, one that expires at T_ho 60, a descent by 4 × 30, a cancelled one, a retargeted one. -/
theorem witness_OpenRecordStep :
    let after' := fun s => (after .handoverStep s).hou
    (opened 0 .awaiting).active = true ∧ (opened 0 .awaiting).stage = .slip
    ∧ (opened 0 .awaiting).hou.record = some ⟨1, .positive, 2571, 1800, 2571, 0, [(1, .awaiting)]⟩
    ∧ Sign.positive ≠ .zero
    ∧ (after' (opened 58 .awaiting)).published = some 2571
    ∧ (after' (opened 59 .awaiting)).report = .expired
    ∧ (after' (opened 0 .absorbed)).published = some 2451
    ∧ (after' (withView (opened 0 .awaiting) (fun v => { v with immediate := true }))).report = .cancelled
    ∧ (after' (withView (opened 0 .awaiting) (fun v => { v with driveLimit := 2571 }))).report = .cancelled
    ∧ (after' (withView (opened 0 .absorbed) (fun v => { v with driveLimit := 1900 }))).record
      = some ⟨2, .positive, 2571, 1900, 2571, 1, [(1, .awaiting)]⟩ := by decide +kernel

theorem witness_OpenRecordStaysInBounds :
    (queued .handoverStep (opened 58 .absorbed)).handoverInv
    ∧ step (queued .handoverStep (opened 58 .absorbed))
      = .next (after .handoverStep { opened 58 .absorbed with pending := [] }) :=
  ⟨by decide +kernel, step_queued _ _⟩

theorem witness_HoldLevelNeverRises :
    (queued .handoverStep (opened 0 .absorbed)).handoverInv
    ∧ step (queued .handoverStep (opened 0 .absorbed))
      = .next (after .handoverStep { opened 0 .absorbed with pending := [] })
    ∧ (queued .handoverStep (opened 0 .absorbed)).hou.record
      = some ⟨1, .positive, 2571, 1800, 2571, 0, [(1, .absorbed)]⟩
    ∧ (after .handoverStep { opened 0 .absorbed with pending := [] }).hou.record
      = some ⟨1, .positive, 2571, 1800, 2451, 1, [(1, .absorbed)]⟩ :=
  ⟨by decide +kernel, step_queued _ _, by decide +kernel, by decide +kernel⟩

theorem witness_AllocationOutsideRun :
    ([LifeState.config, .listen, .stopping, .stopped].all fun l =>
      (live l .hold peerFrame).active && decide ((live l .hold peerFrame).stage = .hold)
        && decide ((live l .hold peerFrame).ctl.state ≠ .run)) = true := by decide +kernel

/-- NORMAL, FALLBACK and ISOLATED; a stale demand; a common demand of either sign and none. -/
theorem witness_AllocationChoosesAndFormsTheDemand :
    let s := live .run .hold peerFrame
    let ale := fun s : State => (after .allocationComputation s).ale
    s.active = true ∧ s.stage = .hold ∧ s.ctl.state = .run
    ∧ (ale s).selection.basis = .normal
    ∧ (ale (withView s (fun v => { v with mismatch := true }))).selection.code = 8
    ∧ (ale (withView s (fun v => { v with isolated := true, entries := [] }))).selection.basis = .isolated
    ∧ (ale (withView s (fun v => { v with demandAge := 51 }))).demand = 0
    ∧ (ale (withView s (fun v => { v with demandAge := 50 }))).demand = 3000
    ∧ (ale (withView s (fun v => { v with disagreement := true, demand := 3500 }))).demand = 3000
    ∧ (ale (withView s (fun v => { v with disagreement := true, demand := -3500 }))).demand = 0
    ∧ (ale (withView s (fun v => { v with
        disagreement := true, demand := -3500
        entries := [⟨1, .grace, some (recordOf { peerFrame with demand := -3000 })⟩] }))).demand = -3000 := by
  decide +kernel

theorem witness_SplitConservesTheDemand :
    let s := live .run .hold peerFrame
    let held := { s with hou := { s.hou with published := some 1000 } }
    let trimmed := withWord (withView { held with slu := { held.slu with flag := true } } (fun v => { v with demand := 1 }))
      119 0x080C
    (trimmed.active = true ∧ trimmed.stage = .hold ∧ trimmed.ctl.state = .run ∧ trimmed.viewInv
      ∧ (after .allocationComputation trimmed).ale.demand = 0
      ∧ (after .allocationComputation trimmed).ale.sign = .positive
      ∧ (after .allocationComputation trimmed).ale.aFree = some 0)
    ∧ s.active = true ∧ s.stage = .hold ∧ s.ctl.state = .run ∧ s.viewInv
    ∧ (held.active = true ∧ held.stage = .hold ∧ held.ctl.state = .run ∧ held.viewInv
      ∧ held.hou.published = some 1000 ∧ (after .allocationComputation held).ale.aFree = some 1000) := by
  decide +kernel

/-- Worked case 1's first round clamps; two unclamped members share 5 with one unit of remainder. -/
theorem witness_WaterFillGoesByRounds :
    let m : List Member := [⟨0, 40, 3000⟩, ⟨1, 30, 1500⟩, ⟨2, 30, 2600⟩]
    m.filter (fun i => decide (i.capacity ≤ 6000 * i.weight / 100)) ≠ []
    ∧ ([⟨0, 1, 10⟩, ⟨1, 1, 10⟩] : List Member).filter (fun i => decide (i.capacity ≤ 5 * i.weight / 2)) = []
    ∧ (waterFill [⟨0, 1, 10⟩, ⟨1, 1, 10⟩] 5).shares = [(0, 3), (1, 2)] := by decide +kernel

theorem witness_ConversionsRoundToNearest :
    0 < (2048 : Nat) ∧ 20000 * 1024 < (4000 : Int).natAbs * 8192
    ∧ (2 * ((3 : Int) * 1024 - toMotor 2048 3 * 2048)).natAbs = 2048
    ∧ (-3 : Int).natAbs * 2048 ≤ 20000 * 1024
    ∧ (2 * ((2 : Int) * 2816 - toWheel 2816 2 * 1024)).natAbs = 1024 := by decide +kernel

/-- A station at the shaping, with the given state, share and present command. -/
def shaping (l : LifeState) (share command : Int) : State :=
  let s := live l .share peerFrame
  { s with ale := { s.ale with aSelf := share }, csh := { s.csh with command := command } }

/-- The outcomes of the slew at its edges, the peak, and the clamp at its bound (TL 7000 gives 2333). -/
theorem witness_CommandMovesTowardItsTarget :
    exec .commandShaping (shaping .run 0 0) = .next (after .commandShaping (shaping .run 0 0))
    ∧ (shaping .run 0 0).active = true ∧ (shaping .run 0 0).stage = .share
    ∧ [(LifeState.run, (2571 : Int), (857 : Int)), (.run, 2571, 816), (.run, 0, 81), (.run, -60, 20), (.run, 7500, 2320),
        (.stopping, 2571, 80), (.stopping, 2571, 81)].map (fun p =>
          let t := after .commandShaping (shaping p.1 p.2.1 p.2.2)
          (t.csh.command, t.csh.outcome, t.csh.peakMark))
      = [(857, .atTarget, false), (856, .riseLimited, false), (1, .fallLimited, false), (0, .zeroStop, false),
        (2333, .tlClamped, true), (0, .atTarget, false), (1, .fallLimited, false)] :=
  ⟨exec_after _ _, by decide +kernel⟩

/-- LISTEN one publication before its limit 50 with a peer without digest, and at it; STOPPING at 0; the others. -/
theorem witness_PublicationReportsTheStateAfterIt :
    let listening (n : Nat) : State :=
      let s := live .listen .share peerFrame
      { s with
        ctl := { s.ctl with listenCounter := n }
        pt := { s.pt with view := { s.pt.view with entries := [⟨1, .never, none⟩] } } }
    ((listening 48).active = true ∧ (listening 48).stage = .share
      ∧ (after .commandShaping (listening 48)).ctl.state = .listen
      ∧ (after .commandShaping (listening 49)).ctl.state = .run)
    ∧ (after .commandShaping (live .listen .share peerFrame)).ctl.state = .run
    ∧ (after .commandShaping (shaping .stopping 0 80)).ctl.state = .stopped
    ∧ (after .commandShaping (shaping .stopping 0 81)).ctl.state = .stopping
    ∧ ((shaping .config 0 0).active = true ∧ (shaping .config 0 0).stage = .share)
    ∧ (1 ≤ ((shaping .run 0 0).word 147).toNat) ∧ ((withWord (shaping .run 0 0) 147 0).word 147).toNat = 0 := by
  decide +kernel

theorem witness_PulseEndReturnsPmkLow : (inState .run).active = true := by decide +kernel

/-- A station at interval 16 with the given service counter, own demand and wake request. -/
def quiet (service : Nat) (demand : Int) (wake : Bool) : State :=
  let f : ShareFrame := { peerFrame with demand := 0 }
  let s := withView (live .run .share f) (fun v => { v with demand := demand })
  { s with sbi := { s.sbi with interval := .sixteen, service := service, quiet := 500, wake := wake } }

theorem witness_FramesAreBuiltOnSchedule :
    let seqAfter := fun s : State => ((after .commandShaping s).sbi.seq, (after .commandShaping s).sbi.service)
    exec .commandShaping (quiet 14 0 false) = .next (after .commandShaping (quiet 14 0 false))
    ∧ (quiet 14 0 false).active = true ∧ (quiet 14 0 false).stage = .share
    ∧ seqAfter (quiet 14 0 false) = (0, 15) ∧ seqAfter (quiet 15 0 false) = (1, 0)
    ∧ seqAfter (quiet 14 300 false) = (1, 0) ∧ seqAfter (shaping .run 0 0) = (1, 0)
    ∧ seqAfter (shaping .stopping 0 80) = (1, 0) ∧ seqAfter (shaping .config 0 0) = (0, 0) :=
  ⟨exec_after _ _, by decide +kernel⟩

/-- Awake and asleep at interval 16, a wake request, and Q = 500 reached and not reached at interval 1. -/
theorem witness_QuietOperation :
    let b := fun s : State => ((after .commandShaping s).sbi.interval, (after .commandShaping s).sbi.quiet)
    let one (n : Nat) (demand : Int) (wake : Bool) : State :=
      let s := quiet 0 demand wake
      { s with sbi := { s.sbi with interval := .one, quiet := n } }
    exec .commandShaping (quiet 0 0 false) = .next (after .commandShaping (quiet 0 0 false))
    ∧ (quiet 0 0 false).active = true ∧ (quiet 0 0 false).stage = .share
    ∧ b (quiet 0 0 false) = (.sixteen, 500) ∧ b (quiet 0 1 false) = (.one, 0) ∧ b (quiet 0 0 true) = (.one, 0)
    ∧ b (one 499 0 false) = (.sixteen, 500) ∧ b (one 498 0 false) = (.one, 499) ∧ b (one 499 0 true) = (.one, 0)
    ∧ b (one 499 1 false) = (.one, 0) ∧ b (shaping .stopping 0 80) = (.sixteen, 0)
    ∧ b (shaping .listen 0 0) = (.one, 0)
    ∧ (let s := shaping .stopping 0 857
       let woken := { s with sbi := { s.sbi with wake := true } }
       (after .commandShaping woken).ctl.state = .stopping ∧ (after .commandShaping woken).sbi.wake = true) :=
  ⟨exec_after _ _, by decide +kernel⟩

/-- Sequence 16 calls for the extension, 17 does not; one echo is Due and still shown; RUN, LISTEN, STOPPING. -/
theorem witness_BuiltFrameCarriesThePublication :
    let due (l : LifeState) (seq : Byte) : State :=
      let f : ShareFrame := { peerFrame with tag := 3 }
      let s := live l .share f
      { s with
        sbi := { s.sbi with seq := seq }
        csh := { s.csh with command := 400 }
        hou := { s.hou with echoDue := [⟨1, 3, .due⟩] } }
    let frame := fun s : State => (after .commandShaping s).sbi.slot
    let occupied : State :=
      let s := due .run 17
      { s with sbi := { s.sbi with slot := some { peerFrame with sender := 0, health := ⟨true, false⟩ } } }
    let idle : State := let s := due .run 17; { s with sbi := { s.sbi with phase := .idle } }
    ([(LifeState.run, (16 : Byte)), (.run, 17), (.listen, 17), (.stopping, 17)].all fun p =>
      (due p.1 p.2).active && decide ((due p.1 p.2).stage = .share) && decide ((due p.1 p.2).sbi.slot = none)
        && decide ((after .commandShaping (due p.1 p.2)).sbi.seq = (due p.1 p.2).sbi.seq + 1)
        && decide ((due p.1 p.2).hou.echoDue.Pairwise (fun a b => a.originator ≠ b.originator))) = true
    ∧ (occupied.active = true ∧ occupied.stage = .share ∧ (after .commandShaping occupied).sbi.seq = 18
      ∧ (frame occupied).map (fun f => f.health) = some ⟨true, false⟩
      ∧ (after .commandShaping occupied).hu.txOverwrite = 1)
    ∧ (idle.active = true ∧ idle.stage = .share ∧ (after .commandShaping idle).sbi.seq = 18
      ∧ (after .commandShaping idle).sbi.inFlight.isSome = true)
    ∧ (frame (due .run 16)).map (fun f => (f.digest, f.echoes)) = some (some 0x1234, [⟨1, 3⟩])
    ∧ (frame (due .run 17)).map (fun f => (f.digest, f.driveCapacity)) = some (none, 7000)
    ∧ (frame (due .stopping 17)).map (fun f => (f.applied, f.driveCapacity)) = some (960, 960) := by decide +kernel

theorem witness_InverterSequenceNumbersItsFrames :
    exec .commandShaping (shaping .run 0 0) = .next (after .commandShaping (shaping .run 0 0))
    ∧ (shaping .run 0 0).active = true ∧ (shaping .run 0 0).stage = .share
    ∧ (after .commandShaping (shaping .run 0 0)).icl.seq ≠ (shaping .run 0 0).icl.seq
    ∧ State.reset.supplyValid = true :=
  ⟨exec_after _ _, by decide +kernel⟩

theorem witness_StagesWaitForTheirPublication :
    (Instr.viewLatch, Stage.sample) ∈ ([(.viewLatch, .sample), (.slipEvaluation, .view), (.handoverStep, .slip),
      (.allocationComputation, .hold), (.commandShaping, .share)] : List (Instr × Stage))
    ∧ (latching .run 0).stage = .sample ∧ (latching .run 0).active = true ∧ (inState .run).stage ≠ .sample := by
  decide +kernel

theorem witness_GapStartsTheFrameInTheSlot :
    State.reset.active = true ∧ State.reset.ctl.state = .config
    ∧ (waiting.active = true ∧ waiting.ctl.state ≠ .config ∧ waiting.sbi.inFlight = none
      ∧ waiting.sbi.slot = some { peerFrame with sender := 0 })
    ∧ ((inState .run).sbi.inFlight = none ∧ (inState .run).sbi.slot = none)
    ∧ (sending.active = true ∧ sending.sbi.inFlight = some { peerFrame with sender := 0 }) := by decide +kernel

theorem witness_BuiltFrameEntersTheSlot :
    let idle := { inState .run with sbi := { (inState .run).sbi with phase := .idle } }
    (inState .run).sbi.slot = none ∧ waiting.sbi.slot = some { peerFrame with sender := 0 }
    ∧ (idle.sbi.phase = .idle ∧ idle.sbi.inFlight = none) ∧ sending.sbi.inFlight ≠ none := by decide +kernel

/-- A frame in flight, with an empty slot, with a newer frame in the slot, and after a duplicate stop. -/
theorem witness_LostContentionAndTransmitErrors :
    let f : ShareFrame := { peerFrame with sender := 0 }
    let both := { sending with sbi := { sending.sbi with slot := some f } }
    let dup := { sending with ctl := { sending.ctl with dupLatch := true, state := .stopping } }
    (inState .run).active = true ∧ (inState .run).sbi.inFlight = none
    ∧ (sending.active = true ∧ sending.sbi.inFlight = some f ∧ sending.ctl.dupLatch = false ∧ sending.sbi.slot = none)
    ∧ (both.active = true ∧ both.sbi.inFlight = some f ∧ both.ctl.dupLatch = false ∧ both.sbi.slot = some f)
    ∧ (dup.active = true ∧ dup.sbi.inFlight = some f ∧ dup.ctl.dupLatch = true) := by decide +kernel

theorem witness_OwnFrameCompletesAndIsRecognised :
    let f : ShareFrame := { peerFrame with sender := 0 }
    let both := { sending with sbi := { sending.sbi with slot := some f } }
    both.active = true ∧ both.ctl.state ≠ .config ∧ both.sbi.inFlight = some f ∧ both.sbi.slot = some f := by
  decide +kernel

/-- A frame that is rejected, and one whose sender 2 is outside the mask 3. -/
theorem witness_BadFramesAreRejected :
    let s := inState .run
    let bytes := { peerFrame with sender := 2 }.bytes
    s.active = true ∧ s.ctl.state ≠ .config ∧ s.sbi.isOwnFrame bytes = false ∧ s.sbi.isOwnFrame [0] = false
    ∧ ([0] : List Byte).length ≠ 18 + (([0] : List Byte).getD 1 0).toNat % 4
    ∧ (decodeFrame bytes).isSome = true ∧ (s.word 4).getLsbD 2 = false := by decide +kernel

/-- The bytes of a frame with every bit that the layout marks 0 sent as 1 in bytes 0, 1 and 4, and a good check code. -/
def marked (f : ShareFrame) : List Byte :=
  let body := ((f.body.set 0 (f.body.getD 0 0 ||| 0xFC)).set 1 (f.body.getD 1 0 ||| 0x7C)).set 4 (f.body.getD 4 0 ||| 0x10)
  body ++ wordBytes (checkCode body)

/-- An own open record with tag 3, which the frame echoes; a new tag of the sender, tag 0, and the same tag. -/
theorem witness_AcceptedFrameReplacesTheRecord :
    let s := opened 0 .awaiting
    let echoed : ShareFrame := { peerFrame with seq := 39, echoes := [⟨0, 1⟩], tag := 5, digest := some 0x4321 }
    let next (f : ShareFrame) : State := after (.frameReceived f.bytes) s
    s.active = true ∧ s.ctl.state ≠ .config ∧ (s.word 4).getLsbD 1 = true ∧ (1 : Station) ≠ s.ctl.strap
    ∧ (decodeFrame echoed.bytes = some echoed ∧ s.sbi.isOwnFrame echoed.bytes = false)
    ∧ (decodeFrame peerFrame.bytes = some peerFrame ∧ s.sbi.isOwnFrame peerFrame.bytes = false)
    ∧ (decodeFrame (marked peerFrame) = some peerFrame ∧ s.sbi.isOwnFrame (marked peerFrame) = false)
    ∧ (next echoed).hou.record.map (fun r => r.peers) = some [(1, .absorbed)]
    ∧ (next echoed).hou.echoDue = [⟨1, 5, .seen⟩] ∧ (next peerFrame).hou.echoDue = [] := by decide +kernel

theorem witness_DuplicateStationStopsTheStation :
    let f : ShareFrame := { peerFrame with sender := 0 }
    decodeFrame f.bytes = some f ∧ decodeFrame (marked f) = some f
    ∧ (inState .run).sbi.isOwnFrame (marked f) = false
    ∧ ([LifeState.listen, .run, .stopping, .stopped].all fun l =>
      (inState l).active && decide ((inState l).ctl.state ≠ .config) && !(inState l).sbi.isOwnFrame f.bytes
        && ((inState l).word 4).getLsbD (inState l).ctl.strap.val && decide (f.sender = (inState l).ctl.strap)
        && !(inState l).ctl.dupLatch) = true
    ∧ (duplicated .stopped).ctl.dupLatch = true ∧ (duplicated .stopped).sbi.isOwnFrame f.bytes = false := by
  decide +kernel

/-- The extreme values a frame can carry. -/
theorem witness_FrameRoundTrip :
    let f : ShareFrame := { peerFrame with
      demand := -32768, applied := 32767, driveCapacity := 65535, axleSpeed := 4095, riseStep := 255, tag := 15
      echoes := [⟨0, 15⟩, ⟨2, 1⟩, ⟨3, 7⟩], digest := some 0xFFFF }
    f.legal = true ∧ decodeFrame f.bytes = some f ∧ f.bytes.length = 23 ∧ collectBytes f.levels = f.bytes
    ∧ decodeFrame (marked f) = some f
    ∧ sending.sbi.levelAt 0 = false ∧ sending.sbi.levelAt 180 = true ∧ (inState .run).sbi.levelAt 0 = true := by
  decide +kernel

theorem witness_LifeCycleInvariantIsKept :
    (queued (.stop 0 []) (inState .run)).lifeInv
    ∧ step (queued (.stop 0 []) (inState .run)) = .next (after (.stop 0 []) (inState .run)) :=
  ⟨by decide +kernel, step_queued _ _⟩

theorem witness_ViewInvariantIsKept :
    (queued .viewLatch (latching .run 8)).lifeInv ∧ (queued .viewLatch (latching .run 8)).viewInv
    ∧ step (queued .viewLatch (latching .run 8)) = .next (after .viewLatch (latching .run 8)) :=
  ⟨by decide +kernel, by decide +kernel, step_queued _ _⟩

theorem witness_RangesAreKept :
    let s := queued (.periodTimerExpiry 1000) (rolling 255)
    s.lifeInv ∧ s.rangeInv ∧ s.silentInv ∧ step s = .next (after (.periodTimerExpiry 1000) (rolling 255)) := by
  refine ⟨?_, ⟨?_, ?_, ?_, ?_, ?_, ?_⟩, ?_, step_queued _ _⟩ <;> decide +kernel

/-- The same in RUN, with an open record, an echo that is Due, and a peer's record. -/
theorem witness_RangesAreKept_in_run :
    let s := queued .handoverStep
      { opened 0 .absorbed with hou := { (opened 0 .absorbed).hou with echoDue := [⟨1, 3, .due⟩] } }
    s.lifeInv ∧ s.rangeInv ∧ s.silentInv ∧ s.handoverInv := by
  refine ⟨?_, ⟨?_, ?_, ?_, ?_, ?_, ?_⟩, ?_, ?_⟩ <;> decide +kernel

end Sys2Proof.Tests
end

