-- ==== Sys2Proof/Proofs/ShareBus.lean ====
section
/-! PROOFS. The own frame on the share bus: its completion, its recognition by the own receiver, and the gap that
follows (02_the_share_bus.md, 2.1 and 2.2). -/

namespace Sys2Proof.Machine

/-! ## The bus events of a station that takes part -/

theorem exec_frameTxComplete_of_active {s : State} (ha : s.active = true) :
    exec .frameTxComplete s = .next s.completeFrame :=
  whenActive_of_active ha _

/-- The events that only an active station outside CONFIG takes (R30). -/
theorem whenActive_onBus {s : State} (ha : s.active = true) (hc : s.ctl.state ≠ .config) (f : State → State) :
    whenActive s (·.onBus f) = .next (f s) := by
  rw [whenActive_of_active ha, onBus_of_ne hc]

theorem exec_frameReceived_of_onBus {s : State} (ha : s.active = true) (hc : s.ctl.state ≠ .config)
    (bytes : List Byte) : exec (.frameReceived bytes) s = .next (s.receiveFrame bytes) :=
  whenActive_onBus ha hc _

theorem exec_interframeGap_of_onBus {s : State} (ha : s.active = true) (hc : s.ctl.state ≠ .config) :
    exec .interframeGap s = .next s.takeGap :=
  whenActive_onBus ha hc _

/-! ## What the events do -/

theorem State.completeFrame_of_inFlight {s : State} {f : ShareFrame} (hf : s.sbi.inFlight = some f) :
    s.completeFrame
      = { s with sbi := { s.sbi with inFlight := none, completing := some f, phase := .watching } } := by
  simp [State.completeFrame, ShareBus.release, hf]

@[simp] theorem State.completeFrame_active (s : State) : s.completeFrame.active = s.active := by
  unfold State.completeFrame
  split <;> rfl

@[simp] theorem State.completeFrame_ctl (s : State) : s.completeFrame.ctl = s.ctl := by
  unfold State.completeFrame
  split <;> rfl

/-- The bytes of the frame just completed are recognised as the own ones (R30). -/
theorem ShareBus.isOwnFrame_of_completing {b : ShareBus} {f : ShareFrame} (hf : b.completing = some f) :
    b.isOwnFrame f.bytes = true := by
  simp [ShareBus.isOwnFrame, hf]

/-- The own frame ends a collection and is not judged: only the record of the bus changes (R30). -/
theorem State.receiveFrame_of_isOwnFrame {s : State} {bytes : List Byte} (h : s.sbi.isOwnFrame bytes = true) :
    s.receiveFrame bytes = { s with sbi := { s.sbi with
      completing := none, phase := if s.sbi.phase = .collecting then .watching else s.sbi.phase } } := by
  simp [State.receiveFrame, h]

/-- The frame that has just been in flight is recognised when its bytes come, and then is forgotten (R22, R30). -/
theorem State.receiveFrame_completeFrame {s : State} {f : ShareFrame} (hf : s.sbi.inFlight = some f) :
    s.completeFrame.receiveFrame f.bytes
      = { s with sbi := { s.sbi with inFlight := none, completing := none, phase := .watching } } := by
  rw [State.completeFrame_of_inFlight hf,
    State.receiveFrame_of_isOwnFrame (ShareBus.isOwnFrame_of_completing rfl)]
  rfl

/-- A gap with no frame in flight starts the frame in the slot (R21). -/
theorem State.takeGap_of_slot {s : State} {g : ShareFrame} (hf : s.sbi.inFlight = none)
    (hg : s.sbi.slot = some g) :
    s.takeGap = { s with sbi := { s.sbi with
      gapSeen := true, phase := .driving, slot := none, inFlight := some g } } := by
  simp [State.takeGap, State.startPending, hf, hg]

/-! ## The obligation -/

/-- Settles O52: the three events in a row, each by its rule above. The completed frame is kept for the receiver to
recognise, and no event before the gap touches the slot. -/
theorem ownFrameCompletesAndIsRecognised : Obligations.OwnFrameCompletesAndIsRecognised := by
  intro f s ha hc hf
  have hcomplete := State.completeFrame_of_inFlight hf
  have hreceive := State.receiveFrame_completeFrame hf
  refine ⟨s.completeFrame, s.completeFrame.receiveFrame f.bytes, exec_frameTxComplete_of_active ha,
    exec_frameReceived_of_onBus (by simpa using ha) (by simpa using hc) _, ?_, ?_, ?_, fun g hg => ?_⟩
  · rw [hcomplete]
  · rw [hcomplete]
  · rw [hreceive]
  · rw [hreceive]
    exact ⟨_, exec_interframeGap_of_onBus ha hc, by simp [State.takeGap_of_slot, hg]⟩

end Sys2Proof.Machine
end

section
/-! PROOFS. The window and the cursor of the parameter store: SET_WINDOW and READ_WORDS
(09_local_port_and_parameter_store.md). -/

namespace Sys2Proof

/-! ## The command word of a transaction (R201) -/

theorem commandWord_toNat (code arg : Byte) : (commandWord code arg).toNat = code.toNat * 256 + arg.toNat := by
  have hcode := code.isLt
  have harg := arg.isLt
  rw [commandWord, BitVec.toNat_ofNat]
  omega

@[simp] theorem commandCode_commandWord (code arg : Byte) : commandCode (commandWord code arg) = code := by
  have harg := arg.isLt
  apply BitVec.eq_of_toNat_eq
  rw [commandCode, commandWord_toNat, BitVec.toNat_ofNat]
  omega

@[simp] theorem commandArg_commandWord (code arg : Byte) : commandArg (commandWord code arg) = arg := by
  apply BitVec.eq_of_toNat_eq
  rw [commandArg, commandWord_toNat, BitVec.toNat_ofNat]
  omega

theorem decodeTransaction_commandWord (code arg : Byte) (words : List Word) :
    decodeTransaction (commandWord code arg :: words) = decodeCommand code arg words := by
  simp [decodeTransaction]

theorem decodeTransaction_setWindow (arg : Byte) (words : List Word) :
    decodeTransaction (commandWord 0x01 arg :: words) = .setWindow arg words :=
  decodeTransaction_commandWord 0x01 arg words

theorem decodeTransaction_readWords (count : Byte) (words : List Word) :
    decodeTransaction (commandWord 0x03 count :: words) = .readWords count words :=
  decodeTransaction_commandWord 0x03 count words

end Sys2Proof

namespace Sys2Proof.Machine

/-! ## The delivered state (R171)

The transaction's delivery changes the port's own record alone, so the command that acts after it finds the window, the
cursor and the store of the state before. -/

@[simp] theorem State.deliver_reply (s : State) (n : Nat) : (s.deliver n).lp.reply = [] := rfl
@[simp] theorem State.deliver_last (s : State) (n : Nat) : (s.deliver n).lp.last = s.lp.last := rfl
@[simp] theorem State.deliver_cursor (s : State) (n : Nat) : (s.deliver n).lp.cursor = s.lp.cursor := rfl

@[simp] theorem State.deliver_word (s : State) (n i : Nat) : (s.deliver n).word i = s.word i :=
  State.word_congr (State.deliver_ps s n) (by rw [State.deliver_ctl]) i

/-- A refused command raises PORT_FAULT, bit 0 of the flags, and changes nothing else (R172, R194). -/
theorem State.portFault_eq (s : State) :
    s.portFault = { s with hu := { s.hu with flags := s.hu.flags ||| 0x0001#16 } } := rfl

/-! ## SET_WINDOW (R173) -/

theorem exec_setWindow_of_active {s : State} (ha : s.active = true) (arg : Byte) (words : List Word) :
    exec (.setWindow arg words) s = .next ((s.deliver (1 + words.length)).takeWindow words) :=
  onPort_of_active ha words (·.takeWindow words)

theorem State.takeWindow_of_bad {first last : Word} (h : last.toNat < first.toNat ∨ 148 < last.toNat) (s : State)
    (rest : List Word) : s.takeWindow (first :: last :: rest) = s.portFault := by
  simp only [State.takeWindow, if_pos h]

theorem State.takeWindow_of_good {first last : Word} (hle : first.toNat ≤ last.toNat) (hlast : last.toNat ≤ 148)
    (s : State) (rest : List Word) : s.takeWindow (first :: last :: rest)
      = { s with lp := { s.lp with first := first.toNat, last := last.toNat, cursor := first.toNat } } := by
  have hgood : ¬ (last.toNat < first.toNat ∨ 148 < last.toNat) := by omega
  simp only [State.takeWindow, if_neg hgood]

/-- The transaction of a SET_WINDOW with both its words acts on the delivered state. -/
theorem exec_setWindow_transaction {s : State} (ha : s.active = true) (arg : Byte) (first last : Word)
    (rest : List Word) : exec (decodeTransaction (commandWord 0x01 arg :: first :: last :: rest)) s
      = .next ((s.deliver (3 + rest.length)).takeWindow (first :: last :: rest)) := by
  have hlen : 1 + (first :: last :: rest).length = 3 + rest.length := by simp only [List.length_cons]; omega
  rw [decodeTransaction_setWindow, exec_setWindow_of_active ha, hlen]

/-- Settles O13: the delivered state takes the two words, and either raises PORT_FAULT or has the new window. -/
theorem setWindowSetsWindowAndCursor : Obligations.SetWindowSetsWindowAndCursor := by
  intro arg first last rest s ha
  refine ⟨State.deliver_reply s _, fun hbad => ?_, fun hle hlast => ?_⟩
  · rw [exec_setWindow_transaction ha, State.takeWindow_of_bad hbad, State.portFault_eq, State.deliver_hu]
  · rw [exec_setWindow_transaction ha, State.takeWindow_of_good hle hlast]

/-! ## READ_WORDS (R176) -/

theorem exec_readWords_of_active {s : State} (ha : s.active = true) (count : Byte) (words : List Word) :
    exec (.readWords count words) s = .next ((s.deliver (1 + words.length)).takeReadWords count) :=
  onPort_of_active ha words (·.takeReadWords count)

@[simp] theorem State.readFromCursor_deliver (s : State) (n k : Nat) :
    (s.deliver n).readFromCursor k = s.readFromCursor k := by
  simp only [State.readFromCursor, State.deliver_cursor, State.deliver_last, State.deliver_word]

/-- The cursor moves with the words read while they lie in the window, and otherwise stops just past its end. -/
theorem LocalPort.cursorAfter_eq (lp : LocalPort) (n : Nat) :
    lp.cursorAfter n = if lp.cursor + n ≤ lp.last then lp.cursor + n else lp.last + 1 := by
  unfold LocalPort.cursorAfter
  split <;> omega

/-- Settles O17: the delivered state takes the words. The delivery has moved neither window nor cursor and has left the
store alone, so they are the words and the cursor of the state before. -/
theorem readWordsReadsFromTheCursor : Obligations.ReadWordsReadsFromTheCursor := by
  intro count rest s ha _
  refine ⟨?_, State.word_identity s⟩
  rw [decodeTransaction_readWords, exec_readWords_of_active ha, State.takeReadWords, State.readFromCursor_deliver,
    LocalPort.cursorAfter_eq, State.deliver_cursor, State.deliver_last, State.readFromCursor]

end Sys2Proof.Machine
end

section
/-! PROOFS. What each command does, said once: `effect` gives the state a command leaves where the station takes it, and
one frame equation per operation names the blocks it can change, so that no later proof unfolds an operation to find
out what it leaves alone. -/

namespace Sys2Proof.Machine

/-! ## The effect of a command -/

/-- The state a command leaves where the station takes it: any command while it is active, and the events of the supply
and of RSTn always (R3, R4). -/
def effect (c : Instr) (s : State) : State :=
  match c with
  | .powerOnReset stn1 stn0 => { s with supplyValid := true }.endOfReset stn1 stn0
  | .rstnAssert => { s.clearRuntime with rstnHigh := false }
  | .rstnRelease stn1 stn0 =>
    if s.supplyValid then { s with rstnHigh := true }.endOfReset stn1 stn0 else { s with rstnHigh := true }
  | .supplyOrClockInvalid => { s.clearRuntime with supplyValid := false }
  | .resetStation _ words =>
    let d := s.deliver (1 + words.length)
    { d.clearRuntime with lp := { d.clearRuntime.lp with sdo := d.lp.sdo } }
  | .start _ words => (s.deliver (1 + words.length)).takeStart
  | .stop _ words => (s.deliver (1 + words.length)).takeStop
  | .setWindow _ words => (s.deliver (1 + words.length)).takeWindow words
  | .writeWords count words => s.takeWriteWords count words
  | .readWords count words => (s.deliver (1 + words.length)).takeReadWords count
  | .setDemand mode words => (s.deliver (1 + words.length)).takeDemand mode words
  | .setLimits immediate words => (s.deliver (1 + words.length)).takeLimits immediate words
  | .readStatus _ words => let d := s.deliver (1 + words.length); d.setReply d.statusReply
  | .readSnapshot _ words => let d := s.deliver (1 + words.length); d.setReply d.snapshotReply
  | .readPeer number words => let d := s.deliver (1 + words.length); d.setReply (d.readPeerReply number)
  | .readDiag _ words => (s.deliver (1 + words.length)).takeReadDiag
  | .unknownCommand _ _ words => (s.deliver (1 + words.length)).portFault
  | .incompleteTransaction => s.deliver 0
  | .periodTimerExpiry elapsed => s.takeExpiry elapsed
  | .viewLatch => if s.stage = .sample then s.latchView else s
  | .slipEvaluation => if s.stage = .view then s.evaluateSlip else s
  | .handoverStep => if s.stage = .slip then s.stepHandover else s
  | .allocationComputation => if s.stage = .hold then s.allocate else s
  | .commandShaping => if s.stage = .share then s.shapeCommand else s
  | .pmkPulseEnd => s.endPulse
  | .wheelPulse wheel elapsed => s.takePulse wheel elapsed
  | .interframeGap => s.onBus State.takeGap
  | .firstStartBitAfterGap => s.onBus State.takeStartBit
  | .contentionLost => s.loseContention
  | .txError => s.abandonFrame
  | .frameTxComplete => s.completeFrame
  | .frameReceived bytes => s.onBus (·.receiveFrame bytes)
  | .parameterWordTaken count word => s.takeParameterWord count word

/-- Every command answers a next state: that of its effect, or the state as it was where a reset holds the station. -/
theorem exec_eq (c : Instr) (s : State) :
    exec c s = .next (if (supplyEvent c || s.active) = true then effect c s else s) := by
  cases c <;> rfl

theorem exec_of_active {s : State} (h : s.active = true) (c : Instr) : exec c s = .next (effect c s) := by
  rw [exec_eq, if_pos (by simp [h])]

theorem exec_of_supplyEvent {c : Instr} (h : supplyEvent c = true) (s : State) :
    exec c s = .next (effect c s) := by
  rw [exec_eq, if_pos (by simp [h])]

theorem exec_of_held {c : Instr} {s : State} (ha : s.active = false) (hc : supplyEvent c = false) :
    exec c s = .next s := by
  rw [exec_eq, if_neg (by simp [ha, hc])]

theorem eq_effect_of_active {c : Instr} {s t : State} (ha : s.active = true) (h : exec c s = .next t) :
    t = effect c s := by
  rw [exec_of_active ha] at h
  exact (Host.Outcome.next.inj h).symm

/-- A command leaves the state its effect gives, or changes nothing. -/
theorem exec_cases {c : Instr} {s t : State} (h : exec c s = .next t) : t = s ∨ t = effect c s := by
  rw [exec_eq] at h
  split at h
  · exact .inr (Host.Outcome.next.inj h).symm
  · exact .inl (Host.Outcome.next.inj h).symm

/-- A step idles, or takes the command at the front of the queue. -/
theorem step_cases {s t : State} (h : step s = .next t) :
    t = s ∨ ∃ c rest, exec c { s with pending := rest } = .next t := by
  unfold step at h
  split at h
  · exact .inl (Host.Outcome.next.inj h).symm
  · exact .inr ⟨_, _, h⟩

/-- A property that does not ask for the queue, and that every effect keeps, is kept by every step. -/
theorem step_keeps {P : State → Prop} (hqueue : ∀ s q, P s → P { s with pending := q })
    (heffect : ∀ c s, P s → P (effect c s)) {s t : State} (hs : P s) (h : step s = .next t) : P t := by
  rcases step_cases h with rfl | ⟨c, rest, hexec⟩
  · exact hs
  · rcases exec_cases hexec with rfl | rfl
    · exact hqueue s rest hs
    · exact heffect c _ (hqueue s rest hs)

/-! ## Frame equations: the local port -/

/-- What a frame equation says of a block it leaves alone. -/
theorem of_frame {α : Type} (block : State → α) {s t : State} {a : α} (h : s = t) (ht : block t = a) : block s = a :=
  h ▸ ht

theorem State.takeWindow_frame (s : State) (words : List Word) :
    s.takeWindow words = { s with lp := (s.takeWindow words).lp, hu := (s.takeWindow words).hu } := by
  unfold State.takeWindow
  split
  · split <;> rfl
  · rfl

theorem State.takeDemand_frame (s : State) (mode : Byte) (words : List Word) :
    s.takeDemand mode words
      = { s with lp := (s.takeDemand mode words).lp, hu := (s.takeDemand mode words).hu } := by
  unfold State.takeDemand
  split
  · dsimp only
    split <;> rfl
  · rfl

theorem State.takeLimits_frame (s : State) (immediate : Byte) (words : List Word) :
    s.takeLimits immediate words
      = { s with lp := (s.takeLimits immediate words).lp, hu := (s.takeLimits immediate words).hu } := by
  unfold State.takeLimits
  split
  · split
    · rfl
    · dsimp only
      split <;> rfl
  · rfl

theorem State.writeAtCursor_frame (s : State) (w : Word) :
    s.writeAtCursor w = { s with
      ps := { s.ps with words := (s.writeAtCursor w).ps.words }, lp := (s.writeAtCursor w).lp
      hu := (s.writeAtCursor w).hu } := by
  rcases s.writeAtCursor_cases w with ⟨-, h⟩ | ⟨-, -, h⟩ | ⟨-, -, h⟩
  · rw [h]
  · rw [h]
  · rw [h]
    rfl

theorem State.takeParameterWord_frame (s : State) (count : Byte) (w : Word) :
    s.takeParameterWord count w = { s with
      ps := { s.ps with words := (s.takeParameterWord count w).ps.words }, lp := (s.takeParameterWord count w).lp
      hu := (s.takeParameterWord count w).hu } := by
  unfold State.takeParameterWord
  dsimp only
  split
  · rw [s.writeAtCursor_frame w]
  · rfl

/-- The words of a WRITE_WORDS that are still to be acted on, acted on in order (R174). -/
def State.takeParameterWords (s : State) (count : Byte) (words : List Word) : State :=
  words.foldl (fun s w => s.takeParameterWord count w) s

theorem State.takeParameterWords_frame (s : State) (count : Byte) (words : List Word) :
    s.takeParameterWords count words = { s with
      ps := { s.ps with words := (s.takeParameterWords count words).ps.words }
      lp := (s.takeParameterWords count words).lp, hu := (s.takeParameterWords count words).hu } := by
  induction words generalizing s with
  | nil => rfl
  | cons w words ih =>
    have hcons : s.takeParameterWords count (w :: words)
        = (s.takeParameterWord count w).takeParameterWords count words := rfl
    rw [hcons, ih, s.takeParameterWord_frame count w]

/-- The end of a WRITE_WORDS: the words that are left, the refusal, the delivery (R172, R174, R175, R194). -/
theorem State.takeWriteWords_eq (s : State) (count : Byte) (words : List Word) :
    s.takeWriteWords count words =
      let u := s.takeParameterWords count (words.drop s.lp.wordsTaken)
      let refused := u.ctl.state ≠ .config ∨ u.lp.wordsTaken < count.toNat ∨ u.lp.overrun = true
      (if refused then u.portFault else u).deliver (1 + u.lp.wordsTaken) := by
  unfold State.takeWriteWords State.takeParameterWords
  dsimp only
  split <;> rfl

theorem State.takeWriteWords_frame (s : State) (count : Byte) (words : List Word) :
    s.takeWriteWords count words = { s with
      ps := { s.ps with words := (s.takeWriteWords count words).ps.words }
      lp := (s.takeWriteWords count words).lp, hu := (s.takeWriteWords count words).hu } := by
  rw [s.takeWriteWords_eq]
  dsimp only
  rw [s.takeParameterWords_frame]
  split <;> rfl

/-! ## Frame equations: START and STOP -/

theorem State.takeStart_frame (s : State) :
    s.takeStart = { s with
      ctl := { s.takeStart.ctl with strap := s.ctl.strap, dupLatch := s.ctl.dupLatch }
      pt := s.takeStart.pt, hou := { s.takeStart.hou with record := s.hou.record }, sbi := s.takeStart.sbi
      lp := s.takeStart.lp, ps := { s.takeStart.ps with words := s.ps.words }, hu := s.takeStart.hu } := by
  unfold State.takeStart
  split
  · split <;> rfl
  · rfl
  · rfl
  · rfl
  · split <;> rfl

theorem State.takeStop_frame (s : State) :
    s.takeStop = { s with
      ctl := { s.takeStop.ctl with strap := s.ctl.strap, dupLatch := s.ctl.dupLatch }
      hou := s.takeStop.hou, sbi := s.takeStop.sbi, hu := s.takeStop.hu } := by
  unfold State.takeStop
  split <;> rfl

/-! ## Frame equations: the period -/

/-- A warning made only where a condition holds touches the flags and the latch. -/
theorem State.warnIf_frame (s : State) (c : Bool) (f : Flag) :
    s.warnIf c f = { s with
      sbi := { s.sbi with latch := (s.warnIf c f).sbi.latch }
      hu := { s.hu with flags := (s.warnIf c f).hu.flags } } := by
  cases c <;> rfl

theorem State.watchBus_frame (s : State) :
    s.watchBus = { s with
      sbi := { s.sbi with idleWatch := s.watchBus.sbi.idleWatch, gapSeen := false, latch := s.watchBus.sbi.latch }
      hu := { s.hu with flags := s.watchBus.hu.flags } } := by
  unfold State.watchBus
  dsimp only
  split <;> split <;> rfl

theorem State.sampleWheels_frame (s : State) (elapsed : BitVec 32) :
    s.sampleWheels elapsed = { s with
      wsu := (s.sampleWheels elapsed).wsu
      sbi := { s.sbi with latch := (s.sampleWheels elapsed).sbi.latch }
      hu := { s.hu with flags := (s.sampleWheels elapsed).hu.flags } } := by
  unfold State.sampleWheels
  dsimp only
  rw [State.warnIf_frame]

theorem State.takeExpiry_frame (s : State) (elapsed : BitVec 32) :
    s.takeExpiry elapsed = { s with
      periodCount := s.periodCount + 1, stage := .sample, wsu := (s.takeExpiry elapsed).wsu, icl := s.icl.idle
      sbi := { s.sbi with
        idleWatch := (s.takeExpiry elapsed).sbi.idleWatch, gapSeen := false
        latch := (s.takeExpiry elapsed).sbi.latch }
      lp := { s.lp with demandAge := growTo 255 s.lp.demandAge 1 }
      hu := { s.hu with flags := (s.takeExpiry elapsed).hu.flags } } := by
  unfold State.takeExpiry
  dsimp only
  rw [State.sampleWheels_frame, State.ageDemand, State.watchBus_frame]

theorem State.loseInHandover_frame (s : State) (lost : List Station) :
    s.loseInHandover lost = { s with
      hou := (s.loseInHandover lost).hou
      sbi := { s.sbi with latch := (s.loseInHandover lost).sbi.latch }
      hu := { s.hu with flags := (s.loseInHandover lost).hu.flags } } := by
  unfold State.loseInHandover
  split
  · rfl
  · dsimp only
    split
    · rfl
    · split <;> rfl

theorem State.copyView_frame (s : State) :
    s.copyView = { s with
      pt := { s.pt with
        entries := s.grownEntries.map (fun e => { e with prevClass := s.classOf e.record }), view := s.copiedView }
      sbi := { s.sbi with latch := s.copyView.sbi.latch }, hu := { s.hu with flags := s.copyView.hu.flags } } := by
  unfold State.copyView
  dsimp only
  rw [State.warnIf_frame]

theorem State.checkDemands_frame (s : State) :
    s.checkDemands = { s with
      pt := { s.checkDemands.pt with
        entries := s.pt.entries
        view := { s.pt.view with disagreement := s.checkDemands.pt.view.disagreement } }
      sbi := { s.sbi with latch := s.checkDemands.sbi.latch }
      hu := { s.hu with flags := s.checkDemands.hu.flags } } := by
  unfold State.checkDemands
  dsimp only
  rw [State.warnIf_frame]

theorem State.checkDigests_frame (s : State) :
    s.checkDigests = { s with
      pt := { s.pt with view := { s.pt.view with mismatch := s.checkDigests.pt.view.mismatch } }
      hu := { s.hu with flags := s.checkDigests.hu.flags } } := by
  unfold State.checkDigests
  split <;> rfl

theorem State.latchView_frame (s : State) :
    s.latchView = { s with
      stage := .view, pt := s.latchView.pt, hou := s.latchView.hou
      sbi := { s.sbi with latch := s.latchView.sbi.latch }, hu := { s.hu with flags := s.latchView.hu.flags } } := by
  unfold State.latchView
  dsimp only
  split
  · rw [State.loseInHandover_frame, State.copyView_frame]
  · rw [State.checkDigests_frame, State.checkDemands_frame, State.loseInHandover_frame, State.copyView_frame]

theorem State.evaluateSlip_frame (s : State) :
    s.evaluateSlip = { s with slu := s.evaluatedSlip, stage := .slip } := rfl

theorem State.runRecord_frame (s : State) (r : HoRecord) :
    s.runRecord r = { s with
      hou := (s.runRecord r).hou
      sbi := { s.sbi with latch := (s.runRecord r).sbi.latch }
      hu := { s.hu with flags := (s.runRecord r).hu.flags } } := by
  unfold State.runRecord
  dsimp only
  split
  · rfl
  · split <;> rfl

theorem State.stepRecord_frame (s : State) (r : HoRecord) :
    s.stepRecord r = { s with
      hou := (s.stepRecord r).hou
      sbi := { s.sbi with latch := (s.stepRecord r).sbi.latch }
      hu := { s.hu with flags := (s.stepRecord r).hu.flags } } := by
  unfold State.stepRecord
  split
  · rfl
  split
  · rfl
  split
  · rfl
  split
  · split
    · rfl
    · dsimp only
      rw [State.runRecord_frame]
  · exact s.runRecord_frame r

theorem State.moveRecord_frame (s : State) :
    s.moveRecord = { s with
      hou := s.moveRecord.hou
      sbi := { s.sbi with latch := s.moveRecord.sbi.latch }
      hu := { s.hu with flags := s.moveRecord.hu.flags } } := by
  unfold State.moveRecord
  split
  next r _ => exact s.stepRecord_frame r
  next => split <;> rfl

theorem State.stepHandover_frame (s : State) :
    s.stepHandover = { s with
      stage := .hold, hou := s.stepHandover.hou
      sbi := { s.sbi with latch := s.stepHandover.sbi.latch }
      hu := { s.hu with flags := s.stepHandover.hu.flags } } := by
  unfold State.stepHandover
  dsimp only
  rw [State.moveRecord_frame]

theorem State.allocate_frame (s : State) :
    s.allocate = { s with
      stage := .share, ale := s.allocate.ale
      hou := { s.hou with echoDue := s.allocate.hou.echoDue }
      sbi := { s.sbi with latch := s.allocate.sbi.latch }
      hu := { s.hu with flags := s.allocate.hu.flags } } := by
  unfold State.allocate State.serveEchoes
  split
  · dsimp only
    rw [State.warnIf_frame]
    split <;> rfl
  · rfl

/-! ## Frame equations: the publication of the Command Shaper -/

theorem State.exitTests_frame (s : State) :
    s.exitTests = { s with
      ctl := { s.ctl with state := s.exitTests.ctl.state, listenCounter := s.exitTests.ctl.listenCounter }
      sbi := { s.sbi with wake := s.exitTests.sbi.wake } } := by
  unfold State.exitTests
  split
  · dsimp only
    split <;> rfl
  · split <;> rfl
  · rfl
  · rfl
  · rfl

theorem State.putInSlot_frame (s : State) (f : ShareFrame) :
    s.putInSlot f = { s with sbi := { s.sbi with slot := (s.putInSlot f).sbi.slot }, hu := (s.putInSlot f).hu } := by
  rcases s.putInSlot_cases f with ⟨-, h⟩ | ⟨old, -, h⟩
  · rw [h]
  · rw [h]
    rfl

theorem State.startPending_frame (s : State) :
    s.startPending = { s with sbi := { s.sbi with
      slot := s.startPending.sbi.slot, inFlight := s.startPending.sbi.inFlight
      phase := s.startPending.sbi.phase } } := by
  rcases s.startPending_cases with ⟨-, h⟩ | ⟨f, -, h⟩ <;> rw [h]

theorem State.buildFrame_frame (s : State) :
    s.buildFrame = { s with
      sbi := { s.sbi with
        seq := s.sbi.seq + 1, latch := .empty, slot := s.buildFrame.sbi.slot
        inFlight := s.buildFrame.sbi.inFlight, phase := s.buildFrame.sbi.phase }
      hu := s.buildFrame.hu } := by
  unfold State.buildFrame
  dsimp only
  rw [State.putInSlot_frame]
  split
  · rw [State.startPending_frame]
  · rfl

theorem State.shareBusStep_frame (s : State) (before : LifeState) :
    s.shareBusStep before = { s with sbi := (s.shareBusStep before).sbi, hu := (s.shareBusStep before).hu } := by
  unfold State.shareBusStep
  dsimp only
  split
  · rw [State.buildFrame_frame]
  · rfl

theorem State.shapeCommand_frame (s : State) :
    s.shapeCommand = { s with
      stage := .none
      ctl := { s.ctl with state := s.shapeCommand.ctl.state, listenCounter := s.shapeCommand.ctl.listenCounter }
      csh := s.shaped, sbi := s.shapeCommand.sbi, icl := s.shapeCommand.icl
      lp := { s.lp with snapshot := s.shapeCommand.lp.snapshot }, hu := s.shapeCommand.hu } := by
  unfold State.shapeCommand
  dsimp only
  rw [State.shareBusStep_frame, State.exitTests_frame]
  split <;> rfl

/-! ## Frame equations: the wheels and the share bus -/

theorem State.takePulse_frame (s : State) (wheel : Wheel) (elapsed : BitVec 32) :
    s.takePulse wheel elapsed = { s with wsu := (s.takePulse wheel elapsed).wsu } := by
  cases wheel <;> rfl

theorem State.takeGap_frame (s : State) :
    s.takeGap = { s with sbi := s.takeGap.sbi } := by
  unfold State.takeGap
  dsimp only
  split
  · rfl
  · rw [State.startPending_frame]

theorem State.loseContention_frame (s : State) :
    s.loseContention = { s with sbi := s.loseContention.sbi, hu := s.loseContention.hu } := by
  unfold State.loseContention
  split
  · rfl
  · dsimp only
    split
    · rfl
    · split <;> rfl

theorem State.abandonFrame_frame (s : State) :
    s.abandonFrame = { s with sbi := s.abandonFrame.sbi, hu := s.abandonFrame.hu } := by
  unfold State.abandonFrame
  split <;> rfl

theorem State.completeFrame_frame (s : State) : s.completeFrame = { s with sbi := s.completeFrame.sbi } := by
  unfold State.completeFrame
  split <;> rfl

theorem State.acceptFrame_frame (s : State) (f : ShareFrame) :
    s.acceptFrame f = { s with
      pt := { s.pt with entries := (s.acceptFrame f).pt.entries }
      hou := (s.acceptFrame f).hou
      sbi := { s.sbi with wake := s.sbi.wake || f.wakes }, hu := (s.acceptFrame f).hu } := by
  unfold State.acceptFrame
  dsimp only
  split <;> rfl

theorem State.reportDuplicate_frame (s : State) :
    s.reportDuplicate = { s with
      ctl := { s.reportDuplicate.ctl with strap := s.ctl.strap }, hou := s.reportDuplicate.hou, sbi := s.reportDuplicate.sbi
      hu := s.hu.raise .dupStation } := by
  unfold State.reportDuplicate
  dsimp only
  split
  · rfl
  · split <;> rfl

theorem State.judgeFrame_frame (s : State) (bytes : List Byte) :
    s.judgeFrame bytes = { s with
      ctl := { (s.judgeFrame bytes).ctl with strap := s.ctl.strap }
      pt := { s.pt with entries := (s.judgeFrame bytes).pt.entries }
      hou := (s.judgeFrame bytes).hou, sbi := (s.judgeFrame bytes).sbi, hu := (s.judgeFrame bytes).hu } := by
  unfold State.judgeFrame
  split
  · rfl
  · split
    · rfl
    · split
      · rw [State.reportDuplicate_frame]
      · rw [State.acceptFrame_frame]

theorem State.receiveFrame_frame (s : State) (bytes : List Byte) :
    s.receiveFrame bytes = { s with
      ctl := { (s.receiveFrame bytes).ctl with strap := s.ctl.strap }
      pt := { s.pt with entries := (s.receiveFrame bytes).pt.entries }
      hou := (s.receiveFrame bytes).hou, sbi := (s.receiveFrame bytes).sbi, hu := (s.receiveFrame bytes).hu } := by
  unfold State.receiveFrame
  dsimp only
  split
  · rfl
  · rw [State.judgeFrame_frame]

end Sys2Proof.Machine
end

section
/-! PROOFS. The step, the resets, START and STOP (00_scope.md, 01_station_life_cycle.md). -/

namespace Sys2Proof.Machine

/-! ## The queue and the stages -/

/-- Settles O1. -/
theorem stepRunsTheFrontCommand : Obligations.StepRunsTheFrontCommand := fun _ _ _ => ⟨rfl, rfl⟩

/-- What holds of a state and of what an operation makes of it holds of a state that takes the operation where a
condition holds: a stage on its publication, an event of the bus outside CONFIG. -/
theorem ite_keeps {P : State → Prop} {p : Prop} [Decidable p] {s t : State} (hs : P s) (ht : P t) :
    P (if p then t else s) := by
  split
  · exact ht
  · exact hs

theorem onBus_keeps {P : State → Prop} {s : State} {f : State → State} (hs : P s)
    (hf : s.ctl.state ≠ .config → P (f s)) : P (s.onBus f) := by
  unfold State.onBus
  split
  · exact hs
  · exact hf ‹_›

/-- No effect touches the queue: the frame equation of each operation leaves `pending` out. -/
theorem effect_pending (c : Instr) (s : State) : (effect c s).pending = s.pending := by
  have onStage {f : State → State} {p : Prop} [Decidable p] (hf : (f s).pending = s.pending) :
      (if p then f s else s).pending = s.pending := ite_keeps (P := fun u => u.pending = s.pending) rfl hf
  have onBus {f : State → State} (hf : (f s).pending = s.pending) : (s.onBus f).pending = s.pending :=
    onBus_keeps (P := fun u => u.pending = s.pending) rfl fun _ => hf
  cases c with
  | rstnRelease stn1 stn0 => unfold effect; dsimp only; split <;> rfl
  | start arg words => exact of_frame State.pending (State.takeStart_frame _) rfl
  | stop arg words => exact of_frame State.pending (State.takeStop_frame _) rfl
  | setWindow arg words => exact of_frame State.pending (State.takeWindow_frame _ _) rfl
  | writeWords count words => exact of_frame State.pending (State.takeWriteWords_frame _ _ _) rfl
  | setDemand mode words => exact of_frame State.pending (State.takeDemand_frame _ _ _) rfl
  | setLimits immediate words => exact of_frame State.pending (State.takeLimits_frame _ _ _) rfl
  | periodTimerExpiry elapsed => exact of_frame State.pending (State.takeExpiry_frame _ _) rfl
  | viewLatch => exact onStage (of_frame State.pending s.latchView_frame rfl)
  | slipEvaluation => exact onStage (of_frame State.pending s.evaluateSlip_frame rfl)
  | handoverStep => exact onStage (of_frame State.pending s.stepHandover_frame rfl)
  | allocationComputation => exact onStage (of_frame State.pending s.allocate_frame rfl)
  | commandShaping => exact onStage (of_frame State.pending s.shapeCommand_frame rfl)
  | wheelPulse wheel elapsed => exact of_frame State.pending (s.takePulse_frame wheel elapsed) rfl
  | interframeGap => exact onBus (of_frame State.pending s.takeGap_frame rfl)
  | firstStartBitAfterGap => exact onBus rfl
  | contentionLost => exact of_frame State.pending s.loseContention_frame rfl
  | txError => exact of_frame State.pending s.abandonFrame_frame rfl
  | frameTxComplete => exact of_frame State.pending s.completeFrame_frame rfl
  | frameReceived bytes => exact onBus (of_frame State.pending (s.receiveFrame_frame bytes) rfl)
  | parameterWordTaken count word => exact of_frame State.pending (s.takeParameterWord_frame count word) rfl
  | powerOnReset _ _ | rstnAssert | supplyOrClockInvalid | resetStation _ _ | readWords _ _ | readStatus _ _
  | readSnapshot _ _ | readPeer _ _ | readDiag _ _ | unknownCommand _ _ _ | incompleteTransaction | pmkPulseEnd => rfl

/-- Settles O2: a command leaves the state its effect gives, or the state as it was. -/
theorem everyCommandCompletes : Obligations.EveryCommandCompletes := by
  intro c s
  refine ⟨_, exec_eq c s, ?_⟩
  exact ite_keeps (P := fun u => u.pending = s.pending) rfl (effect_pending c s)

/-- Settles O48: each stage acts on the publication it waits for, and leaves its own outstanding. -/
theorem stagesWaitForTheirPublication : Obligations.StagesWaitForTheirPublication := by
  intro c awaited s hc
  simp only [List.mem_cons, Prod.mk.injEq, List.not_mem_nil, or_false] at hc
  rcases hc with ⟨rfl, rfl⟩ | ⟨rfl, rfl⟩ | ⟨rfl, rfl⟩ | ⟨rfl, rfl⟩ | ⟨rfl, rfl⟩ <;>
    refine ⟨fun hs => onPublication_of_ne hs _, fun ha hs => ⟨_, onPublication_of_awaited ha hs _, ?_⟩⟩
  · exact of_frame State.stage s.latchView_frame rfl
  · exact of_frame State.stage s.evaluateSlip_frame rfl
  · exact of_frame State.stage s.stepHandover_frame rfl
  · exact of_frame State.stage s.allocate_frame rfl
  · exact of_frame State.stage s.shapeCommand_frame rfl

/-- Settles O43. -/
theorem pulseEndReturnsPmkLow : Obligations.PulseEndReturnsPmkLow := fun _ ha => exec_of_active ha .pmkPulseEnd

/-! ## The resets (R1 to R5) -/

/-- Settles O4: a held station answers only the supply and RSTn events, and these two clear the runtime state and end
what makes the station active. -/
theorem resetEventsHoldTheStation : Obligations.ResetEventsHoldTheStation := by
  intro c s
  refine ⟨fun ha hc => exec_of_held ha hc, ?_⟩
  rintro (rfl | rfl)
  · refine ⟨_, exec_of_supplyEvent rfl s, ?_⟩
    simp [effect, State.active, State.clearRuntime, LocalPort.reset, PeerTable.reset]
  · refine ⟨_, exec_of_supplyEvent rfl s, ?_⟩
    simp [effect, State.active, State.clearRuntime, LocalPort.reset, PeerTable.reset]

/-- The default store holds the wheel peaks that the reset state's limits have (R169, R203). -/
theorem defaultWord_peaks {s : State} (h : s.ps = ParamStore.defaults) :
    s.param Idx.drivePeak = 7000 ∧ s.param Idx.regenPeak = 3000 := by
  unfold State.param
  rw [s.word_config (by decide), s.word_config (by decide), h]
  decide

/-- The end of a reset leaves the reset state, with the straps' number and the supply as they are. -/
theorem State.endOfReset_eq {s : State} {stn1 stn0 : Bool} {n : Station} (hn : n.val = 2 * stn1.toNat + stn0.toNat) :
    s.endOfReset stn1 stn0 = { State.reset with
      ctl := Control.reset n, supplyValid := s.supplyValid, rstnHigh := s.rstnHigh, pending := s.pending } := by
  obtain rfl : strapNumber stn1 stn0 = n := Fin.ext ((strapNumber_val stn1 stn0).trans hn.symm)
  unfold State.endOfReset
  set u : State := { s with ps := .defaults, ctl := { s.ctl with strap := strapNumber stn1 stn0 } } with hu
  obtain ⟨hdrive, hregen⟩ := defaultWord_peaks (s := u) rfl
  unfold State.clearRuntime
  rw [hdrive, hregen]
  rfl

/-- Settles O3. -/
theorem supplyAndReleaseEndTheReset : Obligations.SupplyAndReleaseEndTheReset := by
  intro stn1 stn0 n s hn
  refine ⟨?_, fun hs => ?_, fun hs => ?_⟩
  · rw [exec_of_supplyEvent rfl, effect, State.endOfReset_eq hn]
    rfl
  · rw [exec_of_supplyEvent rfl, effect, if_pos hs, State.endOfReset_eq hn]
    dsimp only
    rw [hs]
    rfl
  · rw [exec_of_supplyEvent rfl, effect, if_neg (by simp [hs])]

/-- A wheel peak as a block reads it: the store word held to 0..20000 (R181, R203). -/
theorem State.param_drivePeak (s : State) : s.param Idx.drivePeak = min 20000 (s.word 140).toNat := by
  show max 0 _ = _
  exact Nat.zero_max _

theorem State.param_regenPeak (s : State) : s.param Idx.regenPeak = min 20000 (s.word 141).toNat := by
  show max 0 _ = _
  exact Nat.zero_max _

/-- Settles O5: the runtime state is that of a reset, and the words and the strap number stand. -/
theorem resetStationKeepsStoreAndStrap : Obligations.ResetStationKeepsStoreAndStrap := by
  intro arg words s ha
  obtain ⟨hsupply, hrstn⟩ : s.supplyValid = true ∧ s.rstnHigh = true := by simpa [State.active] using ha
  have hdrive := (s.deliver (1 + words.length)).param_drivePeak
  have hregen := (s.deliver (1 + words.length)).param_regenPeak
  rw [State.deliver_word] at hdrive hregen
  rw [exec_of_active ha, effect]
  unfold State.clearRuntime
  dsimp only
  rw [hdrive, hregen, State.deliver_supplyValid, State.deliver_rstnHigh, hsupply, hrstn]
  rfl

/-! ## START (R6 to R10, R16) -/

theorem exec_start_of_active {s : State} (ha : s.active = true) (arg : Byte) (words : List Word) :
    exec (.start arg words) s = .next (s.deliver (1 + words.length)).takeStart :=
  exec_of_active ha _

/-- A word of the store depends on its words and the strap number, not on the lock and the digest (R187). -/
theorem State.word_of_words {s t : State} (hp : t.ps.words = s.ps.words) (hc : t.ctl.strap = s.ctl.strap) :
    t.word = s.word := by
  funext i
  unfold State.word State.own
  rw [hp, hc]

theorem State.param_of_words {s t : State} (hp : t.ps.words = s.ps.words) (hc : t.ctl.strap = s.ctl.strap) :
    t.param = s.param := by
  funext i
  unfold State.param
  rw [State.word_of_words hp hc]

theorem State.expectedPeers_of_words {s t : State} (hp : t.ps.words = s.ps.words) (hc : t.ctl.strap = s.ctl.strap) :
    t.expectedPeers = s.expectedPeers := by
  unfold State.expectedPeers State.expected State.own
  rw [State.word_of_words hp hc, hc]

/-- Validation asks for the store's words and the strap number alone (R7). -/
theorem State.validate_of_words {s t : State} (hp : t.ps.words = s.ps.words) (hc : t.ctl.strap = s.ctl.strap) :
    t.validate = s.validate := by
  have hword : t.word = s.word := State.word_of_words hp hc
  have hown : t.own = s.own := hc
  have hexpected : t.expected = s.expected := by unfold State.expected; rw [hword]
  have hrange : t.outOfRange = s.outOfRange := by funext i; unfold State.outOfRange; rw [hword]
  have hprofile : t.badProfile = s.badProfile := by funext i; unfold State.badProfile; rw [hword]
  have hpattern : t.badPattern = s.badPattern := by funext i; unfold State.badPattern; rw [hword]
  have hset : t.emptySet = s.emptySet := by
    funext k
    unfold State.emptySet State.namesSet State.weightSum State.weight
    rw [hword, hexpected]
  unfold State.validate
  rw [hword, hown, hexpected, hrange, hprofile, hpattern, hset]

theorem State.takeStart_of_valid {s : State} (hc : s.ctl.state = .config) (hv : s.validate = none) :
    s.takeStart = s.acceptStart := by
  simp only [State.takeStart, hc, hv]

theorem State.takeStart_of_invalid {s : State} (hc : s.ctl.state = .config) {code index : Nat}
    (hv : s.validate = some (code, index)) : s.takeStart = s.refuseStart code index := by
  simp only [State.takeStart, hc, hv]

theorem State.takeStart_of_started {s : State}
    (hc : s.ctl.state = .listen ∨ s.ctl.state = .run ∨ s.ctl.state = .stopping) : s.takeStart = s := by
  rcases hc with hc | hc | hc <;> simp only [State.takeStart, hc]

theorem State.takeStart_of_stopped {s : State} (hc : s.ctl.state = .stopped) :
    s.takeStart = if s.ctl.dupLatch then s.portFault else s.enterListen := by
  simp only [State.takeStart, hc]

/-- The digest takes the words' bytes in a row (R99). -/
theorem State.storeDigest_eq (s : State) :
    s.storeDigest = checkCode ((List.range' 4 130).flatMap fun i => wordBytes (s.word i)) := by
  rw [State.storeDigest, wordsCheckCode, List.flatMap_map]

/-- Settles O7. -/
theorem acceptedStartEntersListen : Obligations.AcceptedStartEntersListen := by
  intro arg words s ha hc hv
  have hvd : (s.deliver (1 + words.length)).validate = none := (State.validate_of_words rfl rfl).trans hv
  rw [exec_start_of_active ha, State.takeStart_of_valid (s := s.deliver _) hc hvd, State.acceptStart, State.storeDigest_eq,
    State.param_drivePeak, State.param_regenPeak]
  simp only [State.deliver_word]
  rfl

/-- Settles O8. -/
theorem startRefusedOrOutsideConfig : Obligations.StartRefusedOrOutsideConfig := by
  intro arg words s ha
  have hstart := exec_start_of_active ha arg words
  have hvd : (s.deliver (1 + words.length)).validate = s.validate := State.validate_of_words rfl rfl
  refine ⟨fun code index hc hv => ?_, fun hc => ?_, fun hc hd => ?_, fun hc hd => ?_⟩
  · rw [hstart, State.takeStart_of_invalid (s := s.deliver _) hc (hvd.trans hv)]
    rfl
  · rw [hstart, State.takeStart_of_started (s := s.deliver _) hc]
  · rw [hstart, State.takeStart_of_stopped (s := s.deliver _) hc, State.deliver_ctl, if_pos hd]
    rfl
  · rw [hstart, State.takeStart_of_stopped (s := s.deliver _) hc, State.deliver_ctl, if_neg (by simp [hd])]
    rfl

/-! ## STOP (R12) -/

/-- A discarded record closes Cancelled; with no record open nothing closes (R133). -/
theorem HandoverUnit.discard_eq (h : HandoverUnit) :
    h.discard = { h with record := none, report := if h.record = none then h.report else .cancelled } := by
  obtain ⟨record, _, _, _, _, _, _⟩ := h
  cases record <;> rfl

theorem State.leaveRun_eq (s : State) (cause : StopCause) :
    s.leaveRun cause = { s with
      ctl := { s.ctl with state := .stopping, stopCause := cause }
      sbi := { s.sbi with wake := false, quiet := 0, latch := { s.sbi.latch with error := true } }
      hou := { s.hou with
        record := none
        report := if s.hou.record = none then s.hou.report else .cancelled
        echoDue := s.hou.echoDue.map (fun e => ⟨e.originator, e.tag, .seen⟩) } } := by
  rw [State.leaveRun, HandoverUnit.discard_eq]
  rfl

theorem State.takeStop_of_config {s : State} (hc : s.ctl.state = .config) : s.takeStop = s.portFault := by
  simp only [State.takeStop, hc]

theorem State.takeStop_of_listen {s : State} (hc : s.ctl.state = .listen) :
    s.takeStop = s.stopInto .stopped .host := by
  simp only [State.takeStop, hc]

theorem State.takeStop_of_run {s : State} (hc : s.ctl.state = .run) : s.takeStop = s.leaveRun .host := by
  simp only [State.takeStop, hc]

theorem State.takeStop_of_stopped {s : State} (hc : s.ctl.state = .stopping ∨ s.ctl.state = .stopped) :
    s.takeStop = s := by
  rcases hc with hc | hc <;> simp only [State.takeStop, hc]

/-- Settles O9. -/
theorem stopActsByState : Obligations.StopActsByState := by
  intro arg words s ha
  have hstop : exec (.stop arg words) s = .next (s.deliver (1 + words.length)).takeStop := exec_of_active ha _
  refine ⟨fun hc => ?_, fun hc => ?_, fun hc => ?_, fun hc => ?_⟩
  · rw [hstop, State.takeStop_of_config (s := s.deliver _) hc]
    rfl
  · rw [hstop, State.takeStop_of_listen (s := s.deliver _) hc]
    rfl
  · rw [hstop, State.takeStop_of_run (s := s.deliver _) hc, State.leaveRun_eq]
    rfl
  · rw [hstop, State.takeStop_of_stopped (s := s.deliver _) hc]

end Sys2Proof.Machine
end

section
/-! PROOFS. The share bus: gaps, contention, transmit faults, the slot, and the frames of other stations judged by the
tests of R31 (02_the_share_bus.md). -/

namespace Sys2Proof.Machine

/-! ## The slot and the frame in flight (R20 to R23) -/

/-- A frame displaced in the slot raises and counts TX_OVERWRITE (R20, R195). -/
theorem State.reportOverwrite_hu_eq (s : State) : s.reportOverwrite.hu = { s.hu with
    flags := s.hu.flags ||| 0x1000#16, txOverwrite := min 65535 (s.hu.txOverwrite + 1) } := rfl

theorem State.putInSlot_of_empty {s : State} (h : s.sbi.slot = none) (f : ShareFrame) :
    s.putInSlot f = { s with sbi := { s.sbi with slot := some f } } := by
  simp only [State.putInSlot, h]

theorem State.putInSlot_of_occupied {s : State} {old : ShareFrame} (h : s.sbi.slot = some old) (f : ShareFrame) :
    s.putInSlot f = { s.reportOverwrite with sbi := { s.sbi with slot := some (f.withHealthOf old) } } := by
  simp only [State.putInSlot, h]

/-- The frame the slot holds after a built one has gone in: the built one, with the health field of the frame it
displaces (R20). -/
def ShareBus.slotFrame (b : ShareBus) (f : ShareFrame) : ShareFrame :=
  match b.slot with
  | none => f
  | some old => f.withHealthOf old

theorem State.putInSlot_slot (s : State) (f : ShareFrame) :
    (s.putInSlot f).sbi = { s.sbi with slot := some (s.sbi.slotFrame f) } := by
  cases h : s.sbi.slot with
  | none => simp only [State.putInSlot_of_empty h, ShareBus.slotFrame, h]
  | some old => simp only [State.putInSlot_of_occupied h, ShareBus.slotFrame, h]

/-- The counters and flags after a built frame has gone into the slot (R20, R195). -/
theorem State.putInSlot_hu (s : State) (f : ShareFrame) :
    (s.putInSlot f).hu = if s.sbi.slot = none then s.hu else s.reportOverwrite.hu := by
  cases h : s.sbi.slot with
  | none => rw [State.putInSlot_of_empty h, if_pos rfl]
  | some old => rw [State.putInSlot_of_occupied h, if_neg (Option.some_ne_none old)]

theorem ShareBus.free_iff (b : ShareBus) : b.free = true ↔ b.phase = .idle ∧ b.inFlight = none := by
  simp [ShareBus.free]

/-- The state in which a built frame goes into the slot: it has taken the sequence and emptied the latch (R25, R29). -/
def State.sequenced (s : State) : State := { s with sbi := { s.sbi with seq := s.sbi.seq + 1, latch := .empty } }

theorem State.sequenced_free (s : State) (f : ShareFrame) : (s.sequenced.putInSlot f).sbi.free = s.sbi.free := by
  rw [State.putInSlot_slot]
  rfl

/-- A built frame starts at once on a free bus (R21). -/
theorem State.buildFrame_of_free {s : State} (h : s.sbi.free = true) :
    s.buildFrame.sbi = { s.sbi with
      seq := s.sbi.seq + 1, latch := .empty, slot := none
      inFlight := some (s.sbi.slotFrame s.builtFrame), phase := .driving } := by
  show (if (s.sequenced.putInSlot s.builtFrame).sbi.free then _ else _ : State).sbi = _
  rw [if_pos ((s.sequenced_free _).trans h), State.startPending, State.putInSlot_slot]
  rfl

/-- A built frame waits in the slot while the bus is not free (R20, R21). -/
theorem State.buildFrame_of_busy {s : State} (h : s.sbi.free = false) :
    s.buildFrame.sbi = { s.sbi with
      seq := s.sbi.seq + 1, latch := .empty, slot := some (s.sbi.slotFrame s.builtFrame) } := by
  show (if (s.sequenced.putInSlot s.builtFrame).sbi.free then _ else _ : State).sbi = _
  rw [if_neg (by rw [s.sequenced_free, h]; exact Bool.false_ne_true)]
  exact State.putInSlot_slot _ _

/-- A built frame reports the one it displaces, and nothing else (R20, R195). -/
theorem State.buildFrame_hu (s : State) :
    s.buildFrame.hu = if s.sbi.slot = none then s.hu else s.reportOverwrite.hu := by
  have hput : (s.sequenced.putInSlot s.builtFrame).hu = _ := State.putInSlot_hu _ _
  show (if (s.sequenced.putInSlot s.builtFrame).sbi.free then _ else _ : State).hu = _
  split
  · rw [State.startPending_frame]
    exact hput
  · exact hput

/-- Settles O50. -/
theorem builtFrameEntersTheSlot : Obligations.BuiltFrameEntersTheSlot := by
  intro f s
  refine ⟨fun h => State.putInSlot_of_empty h f, fun old h => State.putInSlot_of_occupied h f, ?_, ?_, ?_, ?_⟩
  · rw [s.buildFrame_frame]
  · rw [s.buildFrame_frame]
  · intro hphase hflight
    rw [State.buildFrame_of_free ((ShareBus.free_iff _).2 ⟨hphase, hflight⟩)]
    exact ⟨rfl, rfl⟩
  · intro hbusy
    have hfree : s.sbi.free = false := by
      rw [← Bool.not_eq_true, ShareBus.free_iff]
      tauto
    rw [State.buildFrame_of_busy hfree]
    exact ⟨rfl, rfl⟩

/-- Settles O51. -/
theorem lostContentionAndTransmitErrors : Obligations.LostContentionAndTransmitErrors := by
  intro s ha
  have hlost : exec .contentionLost s = .next s.loseContention := exec_of_active ha _
  have herror : exec .txError s = .next s.abandonFrame := exec_of_active ha _
  refine ⟨fun h => ?_, fun f h => ⟨fun hd => ?_, fun hd hslot => ?_, fun newer hd hslot => ?_⟩, fun h => ?_,
    fun f h => ?_⟩
  · rw [hlost, State.loseContention, h]
  · rw [hlost]
    simp [State.loseContention, h, hd, ShareBus.release]
  · rw [hlost]
    simp [State.loseContention, h, hd, hslot, ShareBus.release]
  · rw [hlost]
    simp [State.loseContention, h, hd, hslot, ShareBus.release, State.reportOverwrite_hu_eq, ShareFrame.withHealthOf,
      HealthClasses.combine]
  · rw [herror, State.abandonFrame, h]
  · rw [herror, State.abandonFrame, h]
    rfl

/-! ## The gap and the start bit (R18, R19, R21) -/

theorem exec_onBus_of_config {s : State} (ha : s.active = true) (hc : s.ctl.state = .config) (f : State → State) :
    whenActive s (·.onBus f) = .next s := by
  rw [whenActive_of_active ha, onBus_config hc]

/-- Settles O49. -/
theorem gapStartsTheFrameInTheSlot : Obligations.GapStartsTheFrameInTheSlot := by
  intro s ha
  refine ⟨fun hc => ⟨exec_onBus_of_config ha hc _, exec_onBus_of_config ha hc _, fun _ => exec_onBus_of_config ha hc _⟩,
    fun hc => ?_⟩
  have hgap := exec_interframeGap_of_onBus ha hc
  have hstart : exec .firstStartBitAfterGap s = .next s.takeStartBit := whenActive_onBus ha hc _
  refine ⟨fun f hf => ⟨?_, ?_⟩, fun hf => ⟨fun hslot => ?_, fun f hslot => ?_, ?_⟩⟩
  · rw [hgap]
    simp [State.takeGap, hf]
  · rw [hstart, State.takeStartBit, hf]
    rfl
  · rw [hgap]
    simp [State.takeGap, State.startPending, hf, hslot]
  · rw [hgap, State.takeGap_of_slot hf hslot]
  · rw [hstart, State.takeStartBit, hf]
    rfl

/-! ## Received frames (R15, R30 to R34) -/

/-- The state in which a received frame is judged: the collection has ended, and no completed frame waits (R19, R30). -/
def State.endCollection (s : State) : State :=
  { s with sbi := { s.sbi with
    completing := none, phase := if s.sbi.phase = .collecting then .watching else s.sbi.phase } }

theorem State.receiveFrame_eq (s : State) (bytes : List Byte) :
    s.receiveFrame bytes
      = if s.sbi.isOwnFrame bytes then s.endCollection else s.endCollection.judgeFrame bytes := rfl

/-- A frame that is not the own one: the collection ends and the frame is judged (R31). -/
theorem exec_frameReceived_of_foreign {s : State} (ha : s.active = true) (hc : s.ctl.state ≠ .config)
    {bytes : List Byte} (hown : s.sbi.isOwnFrame bytes = false) :
    exec (.frameReceived bytes) s = .next (s.endCollection.judgeFrame bytes) := by
  rw [exec_frameReceived_of_onBus ha hc, State.receiveFrame_eq, if_neg (by simp [hown])]

theorem State.mem_expected (s : State) {n : Station} : n ∈ s.expected ↔ (s.word 4).getLsbD n.val = true :=
  mem_stationsOf

/-- The tests of R31 in order, on a frame that is not the own one. -/
theorem State.judgeFrame_cases (s : State) (bytes : List Byte) :
    (decodeFrame bytes = none ∧ s.judgeFrame bytes = s.reportReject)
    ∨ ∃ f, decodeFrame bytes = some f
      ∧ ((f.sender ∉ s.expected ∧ s.judgeFrame bytes = s.raise .unexpected)
        ∨ (f.sender = s.own ∧ s.judgeFrame bytes = s.reportDuplicate)
        ∨ (f.sender ∈ s.expected ∧ f.sender ≠ s.own ∧ s.judgeFrame bytes = s.acceptFrame f)) := by
  unfold State.judgeFrame
  cases decodeFrame bytes with
  | none => exact .inl ⟨rfl, rfl⟩
  | some f =>
    refine .inr ⟨f, rfl, ?_⟩
    by_cases hm : f.sender ∈ s.expected
    · by_cases ho : f.sender = s.own
      · exact .inr (.inl ⟨ho, by simp [← ho, hm]⟩)
      · exact .inr (.inr ⟨hm, ho, by simp [hm, ho]⟩)
    · exact .inl ⟨hm, by simp [hm]⟩

theorem State.judgeFrame_of_own {s : State} {bytes : List Byte} {f : ShareFrame} (hf : decodeFrame bytes = some f)
    (hm : f.sender ∈ s.expected) (ho : f.sender = s.own) : s.judgeFrame bytes = s.reportDuplicate := by
  simp only [State.judgeFrame, hf, hm, not_true_eq_false, if_false, if_pos ho]

theorem State.judgeFrame_of_peer {s : State} {bytes : List Byte} {f : ShareFrame} (hf : decodeFrame bytes = some f)
    (hm : f.sender ∈ s.expected) (ho : f.sender ≠ s.own) : s.judgeFrame bytes = s.acceptFrame f := by
  simp only [State.judgeFrame, hf, hm, not_true_eq_false, if_false, if_neg ho]

/-- A later report of a duplicate raises DUP_STATION and an error, and stops nothing more (R15, R32). -/
theorem State.reportDuplicate_of_latched {s : State} (hd : s.ctl.dupLatch = true) :
    s.reportDuplicate = s.raiseError .dupStation := by
  simp [State.reportDuplicate, hd]

/-- The first report of a duplicate, in a state that R15 does not leave. -/
theorem State.reportDuplicate_of_stopped {s : State} (hd : s.ctl.dupLatch = false)
    (hs : s.ctl.state = .config ∨ s.ctl.state = .stopping ∨ s.ctl.state = .stopped) :
    s.reportDuplicate = { s with
      ctl := { s.ctl with dupLatch := true, stopCause := .duplicate }
      sbi := { s.sbi with slot := none, latch := { s.sbi.latch with error := true } }
      hu := s.hu.raise .dupStation } := by
  rcases hs with hs | hs | hs <;> simp [State.reportDuplicate, hd, hs]

/-- The first report of a duplicate in LISTEN (R15). -/
theorem State.reportDuplicate_of_listen {s : State} (hd : s.ctl.dupLatch = false) (hs : s.ctl.state = .listen) :
    s.reportDuplicate = { s with
      ctl := { s.ctl with dupLatch := true, stopCause := .duplicate, state := .stopping }
      sbi := { s.sbi with
        slot := none, wake := false, quiet := 0, latch := { s.sbi.latch with error := true } }
      hu := s.hu.raise .dupStation } := by
  simp [State.reportDuplicate, hd, hs, State.stopInto]

/-- The first report of a duplicate in RUN (R15, R133, R148). -/
theorem State.reportDuplicate_of_run {s : State} (hd : s.ctl.dupLatch = false) (hs : s.ctl.state = .run) :
    s.reportDuplicate = { s with
      ctl := { s.ctl with dupLatch := true, stopCause := .duplicate, state := .stopping }
      sbi := { s.sbi with
        slot := none, wake := false, quiet := 0, latch := { s.sbi.latch with error := true } }
      hou := { s.hou with
        record := none
        report := if s.hou.record = none then s.hou.report else .cancelled
        echoDue := s.hou.echoDue.map (fun e => ⟨e.originator, e.tag, .seen⟩) }
      hu := s.hu.raise .dupStation } := by
  simp [State.reportDuplicate, hd, hs, State.leaveRun_eq]

/-- Settles O55. -/
theorem duplicateStationStopsTheStation : Obligations.DuplicateStationStopsTheStation := by
  intro bytes f s ha hc hf hown hm ho
  have hexec : exec (.frameReceived bytes) s = .next s.endCollection.reportDuplicate := by
    rw [exec_frameReceived_of_foreign ha hc hown,
      State.judgeFrame_of_own (s := s.endCollection) hf (ho ▸ s.endCollection.mem_expected.2 hm) ho]
  refine ⟨fun hd => ?_, fun hd hs => ?_, fun hd hs => ?_, fun hd hs => ?_⟩
  · rw [hexec, State.reportDuplicate_of_latched (s := s.endCollection) hd]
    rfl
  · rw [hexec, State.reportDuplicate_of_stopped (s := s.endCollection) hd (.inr hs)]
    rfl
  · rw [hexec, State.reportDuplicate_of_listen (s := s.endCollection) hd hs]
    rfl
  · rw [hexec, State.reportDuplicate_of_run (s := s.endCollection) hd hs]
    rfl

end Sys2Proof.Machine
end

section
/-! PROOFS. The publication of the Command Shaper: the exit tests, the interval, the share frame, and what stands
(08_command_shaping_and_the_inverter_command_line.md; R11, R13, R25, R35 to R38). -/

namespace Sys2Proof.Machine

/-! ## Station control at the publication (R11, R13) -/

/-- The state after the shaper's publication has been taken up by station control: the takers after it work on this. -/
def State.tested (s : State) : State := { s with csh := s.shaped, stage := .none }.exitTests

/-- LISTEN is left at the publication: the peers are ready, or the listen counter has run out (R11). -/
def State.listenEnds (s : State) : Prop := s.peersReady = true ∨ s.param Idx.lListen ≤ s.ctl.listenCounter + 1

/-- The exit tests, case by case (R11, R13, R38). -/
theorem State.tested_cases (s : State) :
    (s.ctl.state = .listen ∧ s.listenEnds ∧ s.tested = { s with
        csh := s.shaped, stage := .none
        ctl := { s.ctl with state := .run, listenCounter := s.ctl.listenCounter + 1 }
        sbi := { s.sbi with wake := false } })
    ∨ (s.ctl.state = .listen ∧ ¬s.listenEnds ∧ s.tested = { s with
        csh := s.shaped, stage := .none, ctl := { s.ctl with listenCounter := s.ctl.listenCounter + 1 } })
    ∨ (s.ctl.state = .stopping ∧ s.shaped.command = 0 ∧ s.tested = { s with
        csh := s.shaped, stage := .none, ctl := { s.ctl with state := .stopped }
        sbi := { s.sbi with wake := false } })
    ∨ ((s.ctl.state = .stopping → s.shaped.command ≠ 0) ∧ s.ctl.state ≠ .listen
        ∧ s.tested = { s with csh := s.shaped, stage := .none }) := by
  unfold State.tested
  cases hs : s.ctl.state with
  | listen =>
    by_cases hends : s.listenEnds
    · refine .inl ⟨rfl, hends, ?_⟩
      simp only [State.exitTests, hs]
      exact if_pos hends
    · refine .inr (.inl ⟨rfl, hends, ?_⟩)
      simp only [State.exitTests, hs]
      exact if_neg hends
  | stopping =>
    by_cases hcommand : s.shaped.command = 0
    · exact .inr (.inr (.inl ⟨rfl, hcommand, by simp only [State.exitTests, hs, if_pos hcommand]⟩))
    · exact .inr (.inr (.inr ⟨fun _ => hcommand, nofun, by simp only [State.exitTests, hs, if_neg hcommand]⟩))
  | config => exact .inr (.inr (.inr ⟨nofun, nofun, by simp only [State.exitTests, hs]⟩))
  | run => exact .inr (.inr (.inr ⟨nofun, nofun, by simp only [State.exitTests, hs]⟩))
  | stopped => exact .inr (.inr (.inr ⟨nofun, nofun, by simp only [State.exitTests, hs]⟩))

theorem State.tested_frame (s : State) :
    s.tested = { s with
      csh := s.shaped, stage := .none
      ctl := { s.ctl with state := s.tested.ctl.state, listenCounter := s.tested.ctl.listenCounter }
      sbi := { s.sbi with wake := s.tested.sbi.wake } } := by
  unfold State.tested
  rw [State.exitTests_frame]

/-! ## What the publication leaves to each block -/

theorem State.shapeCommand_eq (s : State) :
    s.shapeCommand =
      let u := (s.tested.shareBusStep s.ctl.state).sendInverter.latchSnapshot
      if u.marksSplit then u.requestPulse else u := rfl

theorem State.shapeCommand_ctl (s : State) : s.shapeCommand.ctl = s.tested.ctl := by
  have h : (s.tested.shareBusStep s.ctl.state).ctl = s.tested.ctl := of_frame State.ctl (State.shareBusStep_frame _ _) rfl
  rw [State.shapeCommand_eq, ← h]
  dsimp only
  split <;> rfl

theorem State.shapeCommand_sbi (s : State) : s.shapeCommand.sbi = (s.tested.shareBusStep s.ctl.state).sbi := by
  rw [State.shapeCommand_eq]
  dsimp only
  split <;> rfl

/-! ## The interval and the schedule of frames (R25, R35 to R38) -/

theorem State.intervalStep_frame (s : State) (before : LifeState) :
    s.intervalStep before = { s.sbi with
      interval := (s.intervalStep before).interval, quiet := (s.intervalStep before).quiet
      wake := (s.intervalStep before).wake } := by
  unfold State.intervalStep
  split
  · split
    · unfold State.quietStep
      dsimp only
      split <;> split <;> rfl
    · rfl
  all_goals rfl

/-- No frame is built in CONFIG and none after a duplicate (R25). -/
theorem frameDue_of_silent {state : LifeState} {duplicate : Bool} (h : state = .config ∨ duplicate = true)
    (changed : Bool) (interval : Interval) (service : Nat) :
    frameDue state duplicate changed interval service = (false, service) := by
  unfold frameDue
  rw [if_pos h]

theorem State.shareBusStep_of_silent {s : State} (h : s.ctl.state = .config ∨ s.ctl.dupLatch = true)
    (before : LifeState) : s.shareBusStep before = { s with sbi := s.intervalStep before } := by
  unfold State.shareBusStep
  dsimp only
  rw [frameDue_of_silent h]
  rfl

theorem State.tested_state_config_iff (s : State) : s.tested.ctl.state = .config ↔ s.ctl.state = .config := by
  rcases s.tested_cases with ⟨hs, -, h⟩ | ⟨hs, -, h⟩ | ⟨hs, -, h⟩ | ⟨-, -, h⟩ <;> rw [h] <;> simp [*]

/-- A station that may send nothing keeps its frames as they are at a publication (R25). -/
theorem State.shapeCommand_sbi_of_silent {s : State} (h : s.ctl.state = .config ∨ s.ctl.dupLatch = true) :
    s.shapeCommand.sbi = { s.sbi with
      interval := s.shapeCommand.sbi.interval, quiet := s.shapeCommand.sbi.quiet
      wake := s.shapeCommand.sbi.wake } := by
  have hsilent : s.tested.ctl.state = .config ∨ s.tested.ctl.dupLatch = true := by
    rw [s.tested_state_config_iff]
    rwa [s.tested_frame]
  rw [State.shapeCommand_sbi, State.shareBusStep_of_silent hsilent]
  dsimp only
  rw [State.intervalStep_frame, s.tested_frame]

/-! ## The shaper at rest (R162, R163) -/

theorem toWheel_zero (ratio : Nat) : toWheel ratio 0 = 0 := rfl

theorem State.shaped_of_resting {s : State} (h : s.ctl.state.resting) : s.shaped = s.shapeAtRest := by
  rcases h with h | h | h <;> simp only [State.shaped, h]

/-- The command 0 applies no torque. -/
theorem State.shaped_applied_of_command {s : State} (h : s.shaped.command = 0) : s.shaped.applied = 0 := by
  have htoward (target : Int) (mark : Bool) (h0 : (s.shapeToward target mark).command = 0) :
      (s.shapeToward target mark).applied = 0 := by
    show toWheel _ (s.shapeToward target mark).command = 0
    rw [h0, toWheel_zero]
  unfold State.shaped at h ⊢
  split at h
  · rfl
  · rfl
  · rfl
  · exact htoward _ _ h
  · exact htoward _ _ h

end Sys2Proof.Machine
end

section
/-! PROOFS. The life cycle's invariant: every step keeps it (01_station_life_cycle.md). -/

namespace Sys2Proof.Machine

/-! ## What the invariant asks for -/

/-- Nothing of the station is on the bus or waits for it (R30, R39). -/
def ShareBus.OffBus (b : ShareBus) : Prop := b.slot = none ∧ b.inFlight = none ∧ b.completing = none

/-- The invariant asks for the store, station control, the shaper's torques, the frames of the bus and the stations of
the table; the two clauses about the bus are asked for under their conditions only. -/
theorem State.lifeInv_congr {s t : State} (hps : t.ps = s.ps) (hctl : t.ctl = s.ctl)
    (hcommand : t.csh.command = s.csh.command) (happlied : t.csh.applied = s.csh.applied)
    (hdup : s.ctl.dupLatch = true → s.sbi.slot = none → t.sbi.slot = none)
    (hbus : s.ctl.state = .config → s.sbi.OffBus → t.sbi.OffBus)
    (hentries : t.pt.entries.map (fun e => e.station) = s.pt.entries.map (fun e => e.station))
    (h : s.lifeInv) : t.lifeInv := by
  obtain ⟨hlock, hdigest, hvalid, hrest, hsilent, hoff, htable⟩ := h
  have hpeers : t.expectedPeers = s.expectedPeers := State.expectedPeers_of_words (by rw [hps]) (by rw [hctl])
  refine ⟨?_, ?_, ?_, ?_, ?_, ?_, ?_⟩
  · rw [hps, hctl]; exact hlock
  · rw [hps, hctl]; exact hdigest
  · rw [State.validate_of_words (s := s) (by rw [hps]) (by rw [hctl]), hctl]; exact hvalid
  · rw [hctl, hcommand, happlied]; exact hrest
  · rw [hctl]
    intro hd
    obtain ⟨hslot, hcause⟩ := hsilent hd
    exact ⟨hdup hd hslot, hcause⟩
  · rw [hctl]
    exact fun hc => hbus hc (hoff hc)
  · rw [hentries, hctl, hpeers]; exact htable

/-- An operation that leaves the blocks of the invariant alone keeps it. -/
theorem State.lifeInv_of_frame {s t : State} (hps : t.ps = s.ps) (hctl : t.ctl = s.ctl) (hcsh : t.csh = s.csh)
    (hbus : t.sbi.slot = s.sbi.slot ∧ t.sbi.inFlight = s.sbi.inFlight ∧ t.sbi.completing = s.sbi.completing)
    (hpt : t.pt.entries = s.pt.entries) (h : s.lifeInv) : t.lifeInv := by
  obtain ⟨hslot, hflight, hcompleting⟩ := hbus
  refine State.lifeInv_congr hps hctl (by rw [hcsh]) (by rw [hcsh]) (fun _ hs => hslot.trans hs) (fun _ hoff => ?_)
    (by rw [hpt]) h
  unfold ShareBus.OffBus
  rwa [hslot, hflight, hcompleting]

/-! ## Resets -/

/-- The cleared runtime state is one in CONFIG with an unlocked store. -/
theorem State.clearRuntime_lifeInv (s : State) : s.clearRuntime.lifeInv := by
  simp [State.lifeInv, State.clearRuntime, Control.reset, Shaper.reset, ShareBus.reset, PeerTable.reset]

/-! ## The local port -/

/-- Outside CONFIG, and beyond its count, a parameter word is taken and not acted on (R174, R175). -/
theorem State.takeParameterWord_of_idle {s : State} {count : Byte}
    (h : s.ctl.state ≠ .config ∨ count.toNat ≤ s.lp.wordsTaken) (w : Word) :
    s.takeParameterWord count w = { s with lp := { s.lp with wordsTaken := s.lp.wordsTaken + 1 } } := by
  unfold State.takeParameterWord
  dsimp only
  rw [if_neg (by rintro ⟨hc, hn⟩; rcases h with h | h; exacts [h hc, absurd hn (by omega)])]

theorem State.takeParameterWords_of_idle {s : State} (h : s.ctl.state ≠ .config) (count : Byte) (words : List Word) :
    s.takeParameterWords count words
      = { s with lp := { s.lp with wordsTaken := s.lp.wordsTaken + words.length } } := by
  induction words generalizing s with
  | nil => rfl
  | cons w words ih =>
    have hcons : s.takeParameterWords count (w :: words)
        = (s.takeParameterWord count w).takeParameterWords count words := rfl
    rw [hcons, State.takeParameterWord_of_idle (.inl h), ih (by exact h), List.length_cons, Nat.add_assoc,
      Nat.add_comm 1]

/-- A WRITE_WORDS outside CONFIG is refused (R175). -/
theorem State.takeWriteWords_of_refused {s : State} (h : s.ctl.state ≠ .config) (count : Byte) (words : List Word) :
    s.takeWriteWords count words
      = s.portFault.deliver (1 + (s.lp.wordsTaken + (words.drop s.lp.wordsTaken).length)) := by
  rw [s.takeWriteWords_eq]
  dsimp only
  rw [State.takeParameterWords_of_idle h, if_pos (.inl h)]
  rfl

/-- Words of a WRITE_WORDS change the store in CONFIG only, where the invariant does not ask for its words. -/
theorem State.lifeInv_of_words {s t : State} (hframe : t = { s with
      ps := { s.ps with words := t.ps.words }, lp := t.lp, hu := t.hu })
    (hwords : s.ctl.state ≠ .config → t.ps.words = s.ps.words) (h : s.lifeInv) : t.lifeInv := by
  by_cases hc : s.ctl.state = .config
  · rw [hframe]
    simpa only [State.lifeInv, hc, if_true, ne_eq, not_true_eq_false, false_implies, true_and] using h
  · have hps : t.ps = s.ps := by
      have := of_frame State.ps hframe rfl
      rw [this, hwords hc]
    exact State.lifeInv_of_frame (s := s) hps (of_frame State.ctl hframe rfl) (of_frame State.csh hframe rfl)
      (by rw [of_frame State.sbi hframe rfl]; exact ⟨rfl, rfl, rfl⟩) (by rw [of_frame State.pt hframe rfl]) h

/-- An operation of the port that touches its own registers and the Health Unit alone. -/
theorem State.lifeInv_of_port {s t : State} {p : LocalPort} {u : HealthUnit}
    (hframe : t = { s with lp := p, hu := u }) (h : s.lifeInv) : t.lifeInv :=
  State.lifeInv_of_frame (s := s) (of_frame State.ps hframe rfl) (of_frame State.ctl hframe rfl) (of_frame State.csh hframe rfl)
    (by rw [of_frame State.sbi hframe rfl]; exact ⟨rfl, rfl, rfl⟩) (by rw [of_frame State.pt hframe rfl]) h

theorem State.deliver_lifeInv {s : State} (n : Nat) (h : s.lifeInv) : (s.deliver n).lifeInv :=
  State.lifeInv_of_port rfl h

/-! ## START and STOP -/

/-- A resting station that may send and whose store has passed validation meets the invariant in LISTEN. -/
theorem State.enterListen_lifeInv {s : State} (hlock : s.ps.locked = true) (hdigest : s.ps.digest.isSome = true)
    (hvalid : s.validate = none) (hrest : s.csh.command = 0 ∧ s.csh.applied = 0) (hdup : ¬s.ctl.dupLatch = true) :
    s.enterListen.lifeInv := by
  have hv : s.enterListen.validate = none := (State.validate_of_words rfl rfl).trans hvalid
  refine ⟨iff_of_true hlock nofun, iff_of_true hdigest nofun, fun _ => hv, fun _ => hrest, fun hd => ?_, nofun, ?_⟩
  · exact absurd hd hdup
  · show (s.expectedPeers.map _).map _ = s.expectedPeers
    rw [List.map_map]
    exact List.map_id _

/-- A duplicate has stopped the station: in no other state is its latch set (R15). -/
theorem State.lifeInv.not_dup {s : State} (h : s.lifeInv) (h1 : s.ctl.state ≠ .stopping) (h2 : s.ctl.state ≠ .stopped) :
    ¬s.ctl.dupLatch = true := by
  obtain ⟨-, -, -, -, hsilent, -, -⟩ := h
  intro hd
  obtain ⟨-, -, hs | hs⟩ := hsilent hd
  · exact h1 hs
  · exact h2 hs

theorem State.lifeInv.rest {s : State} (h : s.lifeInv) (hr : s.ctl.state.resting) :
    s.csh.command = 0 ∧ s.csh.applied = 0 := by
  obtain ⟨-, -, -, hrest, -, -, -⟩ := h
  exact hrest hr

/-- Raising a flag keeps the invariant. -/
theorem State.portFault_lifeInv {s : State} (h : s.lifeInv) : s.portFault.lifeInv := State.lifeInv_of_port rfl h

theorem State.takeStart_lifeInv {s : State} (h : s.lifeInv) : s.takeStart.lifeInv := by
  cases hc : s.ctl.state with
  | config =>
    cases hv : s.validate with
    | none =>
      rw [State.takeStart_of_valid hc hv]
      exact State.enterListen_lifeInv rfl rfl ((State.validate_of_words rfl rfl).trans hv) (h.rest (.inl hc))
        (h.not_dup (by simp [hc]) (by simp [hc]))
    | some refusal =>
      rw [State.takeStart_of_invalid hc hv]
      exact h
  | listen => rwa [State.takeStart_of_started (.inl hc)]
  | run => rwa [State.takeStart_of_started (.inr (.inl hc))]
  | stopping => rwa [State.takeStart_of_started (.inr (.inr hc))]
  | stopped =>
    rw [State.takeStart_of_stopped hc]
    split
    · exact State.portFault_lifeInv h
    · obtain ⟨hlock, hdigest, hvalid, -⟩ := id h
      have hne : s.ctl.state ≠ .config := by simp [hc]
      exact State.enterListen_lifeInv (hlock.2 hne) (hdigest.2 hne) (hvalid hne) (h.rest (.inr (.inr hc))) ‹_›

/-- A stop moves a station that is not in CONFIG, at rest into STOPPED or with its torque into STOPPING. -/
theorem State.stopInto_lifeInv {s : State} {l : LifeState} {cause : StopCause} (h : s.lifeInv)
    (hc : s.ctl.state ≠ .config) (hdup : s.ctl.dupLatch = true → cause = .duplicate)
    (hl : l = .stopping ∨ l = .stopped ∧ s.ctl.state = .listen) : (s.stopInto l cause).lifeInv := by
  have hlc : l ≠ .config := by rcases hl with rfl | ⟨rfl, -⟩ <;> nofun
  obtain ⟨hlock, hdigest, hvalid, hrest, hsilent, -, htable⟩ := h
  refine ⟨iff_of_true (hlock.2 hc) hlc, iff_of_true (hdigest.2 hc) hlc,
    fun _ => (State.validate_of_words rfl rfl).trans (hvalid hc), fun hr => ?_, fun hd => ?_, fun hl => absurd hl hlc, ?_⟩
  · rcases hl with rfl | ⟨rfl, hs⟩
    · simp [LifeState.resting] at hr
    · exact hrest (.inr (.inl hs))
  · obtain ⟨hslot, -, -⟩ := hsilent hd
    refine ⟨hslot, hdup hd, ?_⟩
    rcases hl with rfl | ⟨rfl, -⟩
    · exact .inl rfl
    · exact .inr rfl
  · rw [if_neg hc] at htable
    rw [if_neg (show (s.stopInto l cause).ctl.state ≠ .config from hlc)]
    exact htable.trans (State.expectedPeers_of_words rfl rfl).symm

theorem State.takeStop_lifeInv {s : State} (h : s.lifeInv) : s.takeStop.lifeInv := by
  cases hc : s.ctl.state with
  | config =>
    rw [State.takeStop_of_config hc]
    exact State.portFault_lifeInv h
  | listen =>
    rw [State.takeStop_of_listen hc]
    exact State.stopInto_lifeInv h (by simp [hc]) (fun hd => absurd hd (h.not_dup (by simp [hc]) (by simp [hc])))
      (.inr ⟨rfl, hc⟩)
  | run =>
    rw [State.takeStop_of_run hc]
    exact State.stopInto_lifeInv (s := { s with hou := s.hou.discard.dueToSeen }) h (by simp [hc])
      (fun hd => absurd hd (h.not_dup (by simp [hc]) (by simp [hc]))) (.inl rfl)
  | stopping => rwa [State.takeStop_of_stopped (.inl hc)]
  | stopped => rwa [State.takeStop_of_stopped (.inr hc)]

/-! ## The period -/

theorem State.latchView_entries (s : State) :
    s.latchView.pt.entries = s.grownEntries.map (fun e => { e with prevClass := s.classOf e.record }) := by
  unfold State.latchView
  dsimp only
  split
  · rw [State.loseInHandover_frame, State.copyView_frame]
  · rw [State.checkDigests_frame, State.checkDemands_frame, State.loseInHandover_frame, State.copyView_frame]

/-- The latch leaves each entry its station (R44, R47). -/
theorem State.latchView_stations (s : State) :
    s.latchView.pt.entries.map (fun e => e.station) = s.pt.entries.map (fun e => e.station) := by
  rw [State.latchView_entries, State.grownEntries, List.map_map, List.map_map]
  rfl

/-- At rest after a publication is a station that was at rest before it, or one whose command has just reached 0 (R13,
R162). -/
theorem State.tested_rest {s : State} (hr : s.tested.ctl.state.resting) :
    s.shaped.command = 0 ∧ s.shaped.applied = 0 := by
  have hzero (hs : s.ctl.state.resting) : s.shaped.command = 0 ∧ s.shaped.applied = 0 := by
    rw [State.shaped_of_resting hs]
    exact ⟨rfl, rfl⟩
  rcases s.tested_cases with ⟨-, -, h⟩ | ⟨hs, -, -⟩ | ⟨-, h0, -⟩ | ⟨-, -, h⟩
  · rw [h] at hr
    simp [LifeState.resting] at hr
  · exact hzero (.inr (.inl hs))
  · exact ⟨h0, State.shaped_applied_of_command h0⟩
  · rw [h] at hr
    exact hzero hr

theorem State.shapeCommand_lifeInv {s : State} (h : s.lifeInv) : s.shapeCommand.lifeInv := by
  have hctl := s.shapeCommand_ctl
  have hcsh : s.shapeCommand.csh = s.shaped := of_frame State.csh s.shapeCommand_frame rfl
  have hps : s.shapeCommand.ps = s.ps := of_frame State.ps s.shapeCommand_frame rfl
  have hpt : s.shapeCommand.pt = s.pt := of_frame State.pt s.shapeCommand_frame rfl
  have hstrap : s.shapeCommand.ctl.strap = s.ctl.strap := of_frame (·.ctl.strap) s.shapeCommand_frame rfl
  have hlatch : s.shapeCommand.ctl.dupLatch = s.ctl.dupLatch := of_frame (·.ctl.dupLatch) s.shapeCommand_frame rfl
  have hcause : s.shapeCommand.ctl.stopCause = s.ctl.stopCause := of_frame (·.ctl.stopCause) s.shapeCommand_frame rfl
  have hconfig : s.shapeCommand.ctl.state = .config ↔ s.ctl.state = .config := by
    rw [hctl]
    exact s.tested_state_config_iff
  obtain ⟨hlock, hdigest, hvalid, -, hsilent, hoff, htable⟩ := h
  refine ⟨?_, ?_, ?_, ?_, ?_, ?_, ?_⟩
  · rw [hps, hlock]
    exact (not_congr hconfig).symm
  · rw [hps, hdigest]
    exact (not_congr hconfig).symm
  · rw [ne_eq, hconfig, State.validate_of_words (by rw [hps]) hstrap]
    exact hvalid
  · rw [hcsh, hctl]
    exact State.tested_rest
  · intro hd
    rw [hlatch] at hd
    obtain ⟨hslot, hdup, hstate⟩ := hsilent hd
    rw [State.shapeCommand_sbi_of_silent (.inr hd), hcause, hctl]
    refine ⟨hslot, hdup, ?_⟩
    rcases s.tested_cases with ⟨hs, -⟩ | ⟨hs, -⟩ | ⟨-, -, h⟩ | ⟨-, -, h⟩
    · simp [hs] at hstate
    · simp [hs] at hstate
    · exact .inr (by rw [h])
    · rw [h]
      exact hstate
  · intro hc
    rw [hconfig] at hc
    rw [State.shapeCommand_sbi_of_silent (.inl hc)]
    exact hoff hc
  · simp only [hpt, hconfig, htable, State.expectedPeers_of_words (congrArg ParamStore.words hps) hstrap]

/-! ## The bus -/

/-- An event of the bus outside CONFIG that puts nothing into an empty slot. -/
theorem State.lifeInv_of_sbi {s t : State} {b : ShareBus} {u : HealthUnit}
    (hframe : t = { s with sbi := b, hu := u })
    (hc : s.ctl.state ≠ .config) (hdup : s.ctl.dupLatch = true → s.sbi.slot = none → t.sbi.slot = none)
    (h : s.lifeInv) : t.lifeInv :=
  State.lifeInv_congr (s := s) (of_frame State.ps hframe rfl) (of_frame State.ctl hframe rfl)
    (by rw [of_frame State.csh hframe rfl]) (by rw [of_frame State.csh hframe rfl]) hdup (fun hs => absurd hs hc)
    (by rw [of_frame State.pt hframe rfl]) h

/-- Only outside CONFIG is a frame in flight (R30, R39). -/
theorem State.lifeInv.not_config {s : State} (h : s.lifeInv) {f : ShareFrame} (hf : s.sbi.inFlight = some f) :
    s.ctl.state ≠ .config := by
  obtain ⟨-, -, -, -, -, hoff, -⟩ := h
  intro hc
  obtain ⟨-, hflight, -⟩ := hoff hc
  simp [hf] at hflight

theorem State.takeGap_lifeInv {s : State} (hc : s.ctl.state ≠ .config) (h : s.lifeInv) : s.takeGap.lifeInv := by
  refine State.lifeInv_of_sbi s.takeGap_frame hc (fun _ hslot => ?_) h
  unfold State.takeGap State.startPending
  dsimp only
  split
  · exact hslot
  · rw [hslot]

theorem State.loseContention_lifeInv {s : State} (h : s.lifeInv) : s.loseContention.lifeInv := by
  cases hf : s.sbi.inFlight with
  | none => simpa only [State.loseContention, hf] using h
  | some f =>
    refine State.lifeInv_of_sbi s.loseContention_frame (h.not_config hf) (fun hd hslot => ?_) h
    simpa [State.loseContention, hf, hd] using hslot

theorem State.abandonFrame_lifeInv {s : State} (h : s.lifeInv) : s.abandonFrame.lifeInv := by
  cases hf : s.sbi.inFlight with
  | none => simpa only [State.abandonFrame, hf] using h
  | some f =>
    refine State.lifeInv_of_sbi s.abandonFrame_frame (h.not_config hf) (fun _ hslot => ?_) h
    simpa [State.abandonFrame, hf] using hslot

theorem State.completeFrame_lifeInv {s : State} (h : s.lifeInv) : s.completeFrame.lifeInv := by
  cases hf : s.sbi.inFlight with
  | none => simpa only [State.completeFrame, hf] using h
  | some f =>
    rw [State.completeFrame_of_inFlight hf]
    exact State.lifeInv_of_sbi rfl (h.not_config hf) (fun _ hslot => hslot) h

/-- An accepted frame leaves each entry its station (R42). -/
theorem State.acceptFrame_stations (s : State) (f : ShareFrame) :
    (s.acceptFrame f).pt.entries.map (fun e => e.station) = s.pt.entries.map (fun e => e.station) := by
  have hentries : (s.acceptFrame f).pt.entries = s.pt.entries.map fun e =>
      if e.station = f.sender then { e with record := some (PeerRecord.accept e.record f) } else e := by
    unfold State.acceptFrame
    dsimp only
    split <;> rfl
  rw [hentries, List.map_map]
  refine List.map_congr_left fun e _ => ?_
  show (if e.station = f.sender then _ else e : PeerEntry).station = e.station
  split <;> rfl

theorem State.acceptFrame_lifeInv {s : State} (f : ShareFrame) (h : s.lifeInv) : (s.acceptFrame f).lifeInv := by
  have hframe := s.acceptFrame_frame f
  have hsbi : (s.acceptFrame f).sbi = { s.sbi with wake := s.sbi.wake || f.wakes } := of_frame State.sbi hframe rfl
  refine State.lifeInv_congr (s := s) (of_frame State.ps hframe rfl) (of_frame State.ctl hframe rfl)
    (by rw [of_frame State.csh hframe rfl]) (by rw [of_frame State.csh hframe rfl]) (fun _ hslot => ?_) (fun _ hoff => ?_)
    (s.acceptFrame_stations f) h
  · rw [hsbi]
    exact hslot
  · rw [hsbi]
    exact hoff

/-- The first report of a duplicate, before the stop it makes: the latch is set, and the slot emptied (R15). -/
theorem State.reportDuplicate_lifeInv {s : State} (hc : s.ctl.state ≠ .config) (h : s.lifeInv) :
    s.reportDuplicate.lifeInv := by
  cases hd : s.ctl.dupLatch with
  | true =>
    rw [State.reportDuplicate_of_latched hd]
    exact State.lifeInv_of_frame rfl rfl rfl ⟨rfl, rfl, rfl⟩ rfl h
  | false =>
    obtain ⟨hlock, hdigest, hvalid, hrest, -, -, htable⟩ := h
    have hv {t : State} (hps : t.ps = s.ps) (hstrap : t.ctl.strap = s.ctl.strap) : t.validate = none :=
      (State.validate_of_words (by rw [hps]) hstrap).trans (hvalid hc)
    rw [if_neg hc] at htable
    cases hs : s.ctl.state with
    | config => exact absurd hs hc
    | listen =>
      rw [State.reportDuplicate_of_listen hd hs]
      exact ⟨iff_of_true (hlock.2 hc) nofun, iff_of_true (hdigest.2 hc) nofun, fun _ => hv rfl rfl,
        fun hr => by simp [LifeState.resting] at hr, fun _ => ⟨rfl, rfl, .inl rfl⟩, nofun, htable⟩
    | run =>
      rw [State.reportDuplicate_of_run hd hs]
      exact ⟨iff_of_true (hlock.2 hc) nofun, iff_of_true (hdigest.2 hc) nofun, fun _ => hv rfl rfl,
        fun hr => by simp [LifeState.resting] at hr, fun _ => ⟨rfl, rfl, .inl rfl⟩, nofun, htable⟩
    | stopping =>
      rw [State.reportDuplicate_of_stopped hd (.inr (.inl hs))]
      exact ⟨hlock, hdigest, fun _ => hv rfl rfl, hrest, fun _ => ⟨rfl, rfl, .inl hs⟩, fun hs' => absurd hs' hc,
        htable.trans (if_neg hc).symm⟩
    | stopped =>
      rw [State.reportDuplicate_of_stopped hd (.inr (.inr hs))]
      exact ⟨hlock, hdigest, fun _ => hv rfl rfl, hrest, fun _ => ⟨rfl, rfl, .inr hs⟩, fun hs' => absurd hs' hc,
        htable.trans (if_neg hc).symm⟩

theorem State.receiveFrame_lifeInv {s : State} (hc : s.ctl.state ≠ .config) (bytes : List Byte) (h : s.lifeInv) :
    (s.receiveFrame bytes).lifeInv := by
  have hend : s.endCollection.lifeInv := State.lifeInv_of_sbi rfl hc (fun _ hslot => hslot) h
  rw [State.receiveFrame_eq]
  split
  · exact hend
  · rcases s.endCollection.judgeFrame_cases bytes with ⟨-, hj⟩ | ⟨f, -, ⟨-, hj⟩ | ⟨-, hj⟩ | ⟨-, -, hj⟩⟩ <;> rw [hj]
    · exact State.lifeInv_of_frame rfl rfl rfl ⟨rfl, rfl, rfl⟩ rfl hend
    · exact State.lifeInv_of_port rfl hend
    · exact State.reportDuplicate_lifeInv hc hend
    · exact State.acceptFrame_lifeInv f hend

/-! ## Every effect, every step -/

theorem effect_lifeInv (c : Instr) {s : State} (h : s.lifeInv) : (effect c s).lifeInv := by
  cases c with
  | powerOnReset stn1 stn0 => exact State.clearRuntime_lifeInv _
  | rstnAssert => exact State.clearRuntime_lifeInv s
  | rstnRelease stn1 stn0 => exact ite_keeps (P := State.lifeInv) h (State.clearRuntime_lifeInv _)
  | supplyOrClockInvalid => exact State.clearRuntime_lifeInv s
  | resetStation arg words => exact State.clearRuntime_lifeInv (s.deliver _)
  | start arg words => exact State.takeStart_lifeInv (State.deliver_lifeInv _ h)
  | stop arg words => exact State.takeStop_lifeInv (State.deliver_lifeInv _ h)
  | setWindow arg words => exact State.lifeInv_of_port (State.takeWindow_frame _ words) (State.deliver_lifeInv _ h)
  | writeWords count words =>
    exact State.lifeInv_of_words (s.takeWriteWords_frame count words)
      (fun hc => of_frame (·.ps.words) (State.takeWriteWords_of_refused hc count words) rfl) h
  | setDemand mode words => exact State.lifeInv_of_port (State.takeDemand_frame _ mode words) (State.deliver_lifeInv _ h)
  | setLimits flag words => exact State.lifeInv_of_port (State.takeLimits_frame _ flag words) (State.deliver_lifeInv _ h)
  | parameterWordTaken count word =>
    exact State.lifeInv_of_words (s.takeParameterWord_frame count word)
      (fun hc => of_frame (·.ps.words) (State.takeParameterWord_of_idle (.inl hc) word) rfl) h
  | periodTimerExpiry elapsed =>
    show (s.takeExpiry elapsed).lifeInv
    rw [s.takeExpiry_frame elapsed]
    exact State.lifeInv_of_frame rfl rfl rfl ⟨rfl, rfl, rfl⟩ rfl h
  | viewLatch =>
    refine ite_keeps (P := State.lifeInv) h ?_
    have hframe := s.latchView_frame
    refine State.lifeInv_congr (s := s) (of_frame State.ps hframe rfl) (of_frame State.ctl hframe rfl)
      (by rw [of_frame State.csh hframe rfl]) (by rw [of_frame State.csh hframe rfl]) (fun _ hslot => ?_)
      (fun _ hoff => ?_) s.latchView_stations h
    · rw [hframe]; exact hslot
    · rw [hframe]; exact hoff
  | slipEvaluation => exact ite_keeps (P := State.lifeInv) h (State.lifeInv_of_frame rfl rfl rfl ⟨rfl, rfl, rfl⟩ rfl h)
  | handoverStep =>
    refine ite_keeps (P := State.lifeInv) h ?_
    rw [s.stepHandover_frame]
    exact State.lifeInv_of_frame rfl rfl rfl ⟨rfl, rfl, rfl⟩ rfl h
  | allocationComputation =>
    refine ite_keeps (P := State.lifeInv) h ?_
    rw [s.allocate_frame]
    exact State.lifeInv_of_frame rfl rfl rfl ⟨rfl, rfl, rfl⟩ rfl h
  | commandShaping => exact ite_keeps (P := State.lifeInv) h (State.shapeCommand_lifeInv h)
  | wheelPulse wheel elapsed =>
    show (s.takePulse wheel elapsed).lifeInv
    rw [s.takePulse_frame wheel elapsed]
    exact State.lifeInv_of_frame rfl rfl rfl ⟨rfl, rfl, rfl⟩ rfl h
  | interframeGap => exact onBus_keeps (P := State.lifeInv) h fun hc => State.takeGap_lifeInv hc h
  | firstStartBitAfterGap =>
    exact onBus_keeps (P := State.lifeInv) h fun hc => State.lifeInv_of_sbi rfl hc (fun _ hslot => hslot) h
  | contentionLost => exact State.loseContention_lifeInv h
  | txError => exact State.abandonFrame_lifeInv h
  | frameTxComplete => exact State.completeFrame_lifeInv h
  | frameReceived bytes => exact onBus_keeps (P := State.lifeInv) h fun hc => State.receiveFrame_lifeInv hc bytes h
  | readWords _ _ | readStatus _ _ | readSnapshot _ _ | readPeer _ _ | readDiag _ _ | unknownCommand _ _ _
  | incompleteTransaction | pmkPulseEnd => exact State.lifeInv_of_port rfl h

/-- Settles O57. -/
theorem lifeCycleInvariantIsKept : Obligations.LifeCycleInvariantIsKept :=
  fun _ _ h hstep => step_keeps (P := State.lifeInv) (fun _ _ hs => hs) (fun c _ hs => effect_lifeInv c hs) h hstep

end Sys2Proof.Machine
end

section
/-! PROOFS. What a command can change, said once for the blocks the invariants speak of; then the moves of the life
cycle, the writers of the store, the view's invariant (01, 03, 09). -/

namespace Sys2Proof.Machine

/-! ## Which commands change what -/

/-- The commands that clear the runtime state: the supply and RSTn events, and RESET_STATION (R3 to R5). -/
def clears : Instr → Bool
  | .resetStation _ _ => true
  | c => supplyEvent c

/-- The commands that write configuration words: those of a WRITE_WORDS (R174). -/
def writes : Instr → Bool
  | .writeWords _ _ => true
  | .parameterWordTaken _ _ => true
  | _ => false

/-- A clearing command leaves a cleared runtime state; a release without supply only raises RSTn (R3 to R5; log 7). -/
theorem effect_of_clears {c : Instr} (hc : clears c = true) (s : State) :
    (∃ (u : State) (supply rstn : Bool) (sdo : List Word), effect c s = { u.clearRuntime with
        supplyValid := supply, rstnHigh := rstn, lp := { u.clearRuntime.lp with sdo := sdo } })
    ∨ effect c s = { s with rstnHigh := true } := by
  cases c with
  | powerOnReset stn1 stn0 => exact .inl ⟨_, _, _, _, rfl⟩
  | rstnAssert => exact .inl ⟨s, s.supplyValid, false, _, rfl⟩
  | rstnRelease stn1 stn0 =>
    by_cases h : s.supplyValid = true
    · exact .inl ⟨_, _, _, _, if_pos h⟩
    · exact .inr (if_neg h)
  | supplyOrClockInvalid => exact .inl ⟨s, false, s.rstnHigh, _, rfl⟩
  | resetStation arg words => exact .inl ⟨s.deliver (1 + words.length), s.supplyValid, s.rstnHigh, _, rfl⟩
  | _ => simp [clears, supplyEvent] at hc

/-- What most commands leave alone: station control, the table and the view, the shaper, the store, the handover record
and its tags, the inverter's sequence. -/
structure State.Spares (s t : State) : Prop where
  ctl : t.ctl = s.ctl
  pt : t.pt = s.pt
  csh : t.csh = s.csh
  ps : t.ps = s.ps
  hou : t.hou = { s.hou with echoDue := t.hou.echoDue }
  seq : t.icl.seq = s.icl.seq

theorem State.Spares.refl (s : State) : s.Spares s := ⟨rfl, rfl, rfl, rfl, rfl, rfl⟩

theorem State.Spares.of_eq {s t : State} (h : t = s) : s.Spares t := h ▸ .refl s

theorem State.Spares.of_port {s t : State} {p : LocalPort} {u : HealthUnit} (h : t = { s with lp := p, hu := u }) :
    s.Spares t := by
  subst h
  exact ⟨rfl, rfl, rfl, rfl, rfl, rfl⟩

theorem State.Spares.of_sbi {s t : State} {b : ShareBus} {u : HealthUnit} (h : t = { s with sbi := b, hu := u }) :
    s.Spares t := by
  subst h
  exact ⟨rfl, rfl, rfl, rfl, rfl, rfl⟩

theorem onBus_spares {s : State} {f : State → State} (hf : s.Spares (f s)) : s.Spares (s.onBus f) :=
  onBus_keeps (P := s.Spares) (.refl s) fun _ => hf

/-- What a command can do to the blocks of `State.Spares`. -/
theorem effect_cases (c : Instr) (s : State) :
    clears c = true
    ∨ s.Spares (effect c s)
    ∨ (writes c = true ∧ s.ctl.state = .config ∧ ∃ words p u, effect c s
        = { s with ps := { s.ps with words := words }, lp := p, hu := u })
    ∨ (∃ arg words, c = .start arg words)
    ∨ (∃ arg words, c = .stop arg words)
    ∨ (c = .viewLatch ∧ effect c s = s.latchView)
    ∨ (c = .handoverStep ∧ effect c s = s.stepHandover)
    ∨ (c = .commandShaping ∧ effect c s = s.shapeCommand)
    ∨ ∃ bytes, c = .frameReceived bytes ∧ s.ctl.state ≠ .config ∧ effect c s = s.receiveFrame bytes := by
  cases c with
  | powerOnReset _ _ | rstnAssert | rstnRelease _ _ | supplyOrClockInvalid | resetStation _ _ => exact .inl rfl
  | start arg words => exact .inr (.inr (.inr (.inl ⟨arg, words, rfl⟩)))
  | stop arg words => exact .inr (.inr (.inr (.inr (.inl ⟨arg, words, rfl⟩))))
  | writeWords count words =>
    by_cases hc : s.ctl.state = .config
    · exact .inr (.inr (.inl ⟨rfl, hc, _, _, _, s.takeWriteWords_frame count words⟩))
    · exact .inr (.inl (.of_port (State.takeWriteWords_of_refused hc count words)))
  | parameterWordTaken count word =>
    by_cases hc : s.ctl.state = .config
    · exact .inr (.inr (.inl ⟨rfl, hc, _, _, _, s.takeParameterWord_frame count word⟩))
    · exact .inr (.inl (.of_port (State.takeParameterWord_of_idle (.inl hc) word)))
  | viewLatch =>
    by_cases hs : s.stage = .sample
    · exact .inr (.inr (.inr (.inr (.inr (.inl ⟨rfl, if_pos hs⟩)))))
    · exact .inr (.inl (.of_eq (if_neg hs)))
  | handoverStep =>
    by_cases hs : s.stage = .slip
    · exact .inr (.inr (.inr (.inr (.inr (.inr (.inl ⟨rfl, if_pos hs⟩))))))
    · exact .inr (.inl (.of_eq (if_neg hs)))
  | commandShaping =>
    by_cases hs : s.stage = .share
    · exact .inr (.inr (.inr (.inr (.inr (.inr (.inr (.inl ⟨rfl, if_pos hs⟩)))))))
    · exact .inr (.inl (.of_eq (if_neg hs)))
  | frameReceived bytes =>
    by_cases hc : s.ctl.state = .config
    · exact .inr (.inl (.of_eq (onBus_config hc (·.receiveFrame bytes))))
    · exact .inr (.inr (.inr (.inr (.inr (.inr (.inr (.inr ⟨bytes, rfl, hc, onBus_of_ne hc (·.receiveFrame bytes)⟩)))))))
  | slipEvaluation => exact .inr (.inl (ite_keeps (P := s.Spares) (.refl s) ⟨rfl, rfl, rfl, rfl, rfl, rfl⟩))
  | allocationComputation =>
    refine .inr (.inl (ite_keeps (P := s.Spares) (.refl s) ?_))
    rw [s.allocate_frame]
    exact ⟨rfl, rfl, rfl, rfl, rfl, rfl⟩
  | periodTimerExpiry elapsed =>
    refine .inr (.inl ?_)
    show s.Spares (s.takeExpiry elapsed)
    rw [s.takeExpiry_frame elapsed]
    exact ⟨rfl, rfl, rfl, rfl, rfl, rfl⟩
  | wheelPulse wheel elapsed =>
    refine .inr (.inl ?_)
    show s.Spares (s.takePulse wheel elapsed)
    rw [s.takePulse_frame wheel elapsed]
    exact ⟨rfl, rfl, rfl, rfl, rfl, rfl⟩
  | setWindow arg words => exact .inr (.inl (.of_port (State.takeWindow_frame (s.deliver _) words)))
  | setDemand mode words => exact .inr (.inl (.of_port (State.takeDemand_frame (s.deliver _) mode words)))
  | setLimits flag words => exact .inr (.inl (.of_port (State.takeLimits_frame (s.deliver _) flag words)))
  | interframeGap => exact .inr (.inl (onBus_spares (.of_sbi s.takeGap_frame)))
  | firstStartBitAfterGap => exact .inr (.inl (onBus_spares (.of_sbi rfl)))
  | contentionLost => exact .inr (.inl (.of_sbi s.loseContention_frame))
  | txError => exact .inr (.inl (.of_sbi s.abandonFrame_frame))
  | frameTxComplete => exact .inr (.inl (.of_sbi s.completeFrame_frame))
  | readWords _ _ | readStatus _ _ | readSnapshot _ _ | readPeer _ _ | readDiag _ _ | unknownCommand _ _ _
  | incompleteTransaction | pmkPulseEnd => exact .inr (.inl ⟨rfl, rfl, rfl, rfl, rfl, rfl⟩)

/-! ## The moves of the life cycle (R5, R10 to R13, R15, R16) -/

/-- START moves a station out of CONFIG or STOPPED into LISTEN, or leaves the state (R6, R16). -/
theorem State.takeStart_state (s : State) :
    s.takeStart.ctl.state = s.ctl.state
    ∨ ((s.ctl.state = .config ∧ s.validate = none ∨ s.ctl.state = .stopped ∧ s.ctl.dupLatch = false)
        ∧ s.takeStart.ctl.state = .listen) := by
  cases hc : s.ctl.state with
  | config =>
    cases hv : s.validate with
    | none => exact .inr ⟨.inl ⟨rfl, rfl⟩, by rw [State.takeStart_of_valid hc hv]; rfl⟩
    | some refusal => exact .inl (by rw [State.takeStart_of_invalid hc hv]; exact hc)
  | listen => exact .inl (by rw [State.takeStart_of_started (.inl hc), hc])
  | run => exact .inl (by rw [State.takeStart_of_started (.inr (.inl hc)), hc])
  | stopping => exact .inl (by rw [State.takeStart_of_started (.inr (.inr hc)), hc])
  | stopped =>
    rw [State.takeStart_of_stopped hc]
    cases hd : s.ctl.dupLatch with
    | true => exact .inl hc
    | false => exact .inr ⟨.inr ⟨rfl, rfl⟩, rfl⟩

/-- STOP leaves LISTEN for STOPPED and RUN for STOPPING (R12). -/
theorem State.takeStop_state (s : State) :
    s.takeStop.ctl.state = s.ctl.state ∨ (s.ctl.state = .listen ∧ s.takeStop.ctl.state = .stopped)
    ∨ (s.ctl.state = .run ∧ s.takeStop.ctl.state = .stopping) := by
  cases hc : s.ctl.state with
  | config => exact .inl (by rw [State.takeStop_of_config hc]; exact hc)
  | listen => exact .inr (.inl ⟨rfl, by rw [State.takeStop_of_listen hc]; rfl⟩)
  | run => exact .inr (.inr ⟨rfl, by rw [State.takeStop_of_run hc]; rfl⟩)
  | stopping => exact .inl (by rw [State.takeStop_of_stopped (.inl hc), hc])
  | stopped => exact .inl (by rw [State.takeStop_of_stopped (.inr hc), hc])

/-- A received frame leaves station control alone, or is the first report of a duplicate (R15). -/
theorem State.receiveFrame_ctl (s : State) (bytes : List Byte) :
    (s.receiveFrame bytes).ctl = s.ctl
    ∨ (s.ctl.dupLatch = false ∧ ∃ l, (s.receiveFrame bytes).ctl
          = { s.ctl with dupLatch := true, stopCause := .duplicate, state := l }
        ∧ (l = s.ctl.state ∨ ((s.ctl.state = .listen ∨ s.ctl.state = .run) ∧ l = .stopping))) := by
  rw [State.receiveFrame_eq]
  split
  · exact .inl rfl
  rcases s.endCollection.judgeFrame_cases bytes with ⟨-, h⟩ | ⟨f, -, ⟨-, h⟩ | ⟨-, h⟩ | ⟨-, -, h⟩⟩ <;> rw [h]
  · exact .inl rfl
  · exact .inl rfl
  · cases hd : s.ctl.dupLatch with
    | true => exact .inl (by rw [State.reportDuplicate_of_latched (s := s.endCollection) hd]; rfl)
    | false =>
      refine .inr ⟨rfl, ?_⟩
      cases hs : s.ctl.state with
      | config | stopping | stopped =>
        rw [State.reportDuplicate_of_stopped (s := s.endCollection) hd (by simp [State.endCollection, hs])]
        exact ⟨_, by rw [← hs]; rfl, .inl rfl⟩
      | listen =>
        rw [State.reportDuplicate_of_listen (s := s.endCollection) hd hs]
        exact ⟨.stopping, rfl, .inr ⟨.inl rfl, rfl⟩⟩
      | run =>
        rw [State.reportDuplicate_of_run (s := s.endCollection) hd hs]
        exact ⟨.stopping, rfl, .inr ⟨.inr rfl, rfl⟩⟩
  · exact .inl (of_frame State.ctl (s.endCollection.acceptFrame_frame f) rfl)

theorem State.shapeCommand_csh (s : State) : s.shapeCommand.csh = s.shaped := of_frame State.csh s.shapeCommand_frame rfl

/-- Settles O10. -/
theorem lifeCycleMoves : Obligations.LifeCycleMoves := by
  intro c s t h
  rcases exec_cases h with rfl | rfl
  · exact .inl rfl
  rcases effect_cases c s with hc | h | ⟨-, -, words, p, u, h⟩ | ⟨arg, words, rfl⟩ | ⟨arg, words, rfl⟩ | ⟨-, h⟩ | ⟨-, h⟩
    | ⟨rfl, h⟩ | ⟨bytes, rfl, -, h⟩
  · rcases effect_of_clears hc s with ⟨u, _, _, _, h⟩ | h
    · refine .inr (.inl ⟨by rw [h]; rfl, ?_⟩)
      cases c <;> simp [clears, supplyEvent] at hc ⊢
    · exact .inl (by rw [h])
  · exact .inl (by rw [h.ctl])
  · exact .inl (by rw [h])
  · rcases (s.deliver (1 + words.length)).takeStart_state with h | ⟨h, hl⟩
    · exact .inl h
    · rw [show (s.deliver (1 + words.length)).validate = s.validate from State.validate_of_words rfl rfl] at h
      exact .inr (.inr (.inl ⟨h, hl, arg, words, rfl⟩))
  · rcases (s.deliver (1 + words.length)).takeStop_state with h | ⟨h, hl⟩ | ⟨h, hl⟩
    · exact .inl h
    · exact .inr (.inr (.inr (.inl ⟨h, hl, arg, words, rfl⟩)))
    · exact .inr (.inr (.inr (.inr (.inl ⟨h, hl, arg, words, rfl⟩))))
  · exact .inl (by rw [h, s.latchView_frame])
  · exact .inl (by rw [h, s.stepHandover_frame])
  · rw [h, s.shapeCommand_csh, s.shapeCommand_ctl]
    rcases s.tested_cases with ⟨hs, -, h⟩ | ⟨hs, -, h⟩ | ⟨hs, h0, h⟩ | ⟨-, -, h⟩ <;> rw [h]
    · exact .inr (.inr (.inr (.inr (.inr (.inr (.inl ⟨hs, rfl, rfl⟩))))))
    · exact .inl rfl
    · exact .inr (.inr (.inr (.inr (.inr (.inr (.inr ⟨hs, rfl, h0, rfl⟩))))))
    · exact .inl rfl
  · rw [h]
    rcases s.receiveFrame_ctl bytes with h | ⟨hd, l, h, hl⟩ <;> rw [h]
    · exact .inl rfl
    · rcases hl with rfl | ⟨hs, rfl⟩
      · exact .inl rfl
      · exact .inr (.inr (.inr (.inr (.inr (.inl ⟨hs, rfl, rfl, hd, bytes, rfl⟩)))))

/-! ## The writers of the store (R2, R8, R175, R187) -/

/-- Outside the resets, the words of the store change in CONFIG only, by a WRITE_WORDS, and the strap number never. -/
theorem effect_words {c : Instr} (hc : clears c = false) (s : State) :
    ((effect c s).ps.words = s.ps.words ∨ (s.ctl.state = .config ∧ writes c = true))
    ∧ (effect c s).ctl.strap = s.ctl.strap := by
  rcases effect_cases c s with h | h | ⟨hw, hs, words, p, u, h⟩ | ⟨arg, words, rfl⟩ | ⟨arg, words, rfl⟩ | ⟨-, h⟩ | ⟨-, h⟩
    | ⟨-, h⟩ | ⟨bytes, -, -, h⟩
  · exact absurd (hc.symm.trans h) Bool.false_ne_true
  · exact ⟨.inl (by rw [h.ps]), by rw [h.ctl]⟩
  · exact ⟨.inr ⟨hs, hw⟩, by rw [h]⟩
  · exact ⟨.inl (of_frame (·.ps.words) (State.takeStart_frame (s.deliver _)) rfl),
      of_frame (·.ctl.strap) (State.takeStart_frame (s.deliver _)) rfl⟩
  · exact ⟨.inl (of_frame (·.ps.words) (State.takeStop_frame (s.deliver _)) rfl),
      of_frame (·.ctl.strap) (State.takeStop_frame (s.deliver _)) rfl⟩
  · exact ⟨.inl (by rw [h, s.latchView_frame]), by rw [h, s.latchView_frame]⟩
  · exact ⟨.inl (by rw [h, s.stepHandover_frame]), by rw [h, s.stepHandover_frame]⟩
  · exact ⟨.inl (by rw [h, s.shapeCommand_frame]), by rw [h, s.shapeCommand_frame]⟩
  · exact ⟨.inl (by rw [h, s.receiveFrame_frame]), by rw [h, s.receiveFrame_frame]⟩

/-- Of the clearing commands, only those that sample the straps change the words of the store or the strap number. -/
theorem effect_words_of_clears {c : Instr} (hc : clears c = true) (s : State) :
    ((effect c s).ps.words = s.ps.words ∧ (effect c s).ctl.strap = s.ctl.strap)
    ∨ ∃ stn1 stn0, c = .powerOnReset stn1 stn0 ∨ c = .rstnRelease stn1 stn0 := by
  cases c with
  | powerOnReset stn1 stn0 => exact .inr ⟨stn1, stn0, .inl rfl⟩
  | rstnRelease stn1 stn0 => exact .inr ⟨stn1, stn0, .inr rfl⟩
  | rstnAssert | supplyOrClockInvalid | resetStation _ _ => exact .inl ⟨rfl, rfl⟩
  | _ => simp [clears, supplyEvent] at hc

/-- Settles O16. -/
theorem storeChangesOnlyByItsWriters : Obligations.StoreChangesOnlyByItsWriters := by
  intro c s t h
  obtain ⟨h0, h1, h2, h3⟩ := t.word_identity
  refine ⟨h0, h1, h2, h3, ?_⟩
  have hword (hwords : t.ps.words = s.ps.words) : ¬∃ i, 4 ≤ i ∧ t.word i ≠ s.word i := by
    rintro ⟨i, hi, hne⟩
    exact hne (by rw [t.word_config hi, s.word_config hi, hwords])
  have hsame (hwords : t.ps.words = s.ps.words) (hstrap : t.ctl.strap = s.ctl.strap) {p q : Prop} :
      ((∃ i, 4 ≤ i ∧ t.word i ≠ s.word i) → p) ∧ (t.ctl.strap ≠ s.ctl.strap → q) :=
    ⟨fun hi => absurd hi (hword hwords), fun hne => absurd hstrap hne⟩
  rcases exec_cases h with rfl | rfl
  · exact hsame rfl rfl
  cases hc : clears c with
  | true =>
    rcases effect_words_of_clears hc s with ⟨hwords, hstrap⟩ | hsample
    · exact hsame hwords hstrap
    · exact ⟨fun _ => .inr hsample, fun _ => hsample⟩
  | false =>
    obtain ⟨hwords | ⟨hs, hw⟩, hstrap⟩ := effect_words hc s
    · exact hsame hwords hstrap
    · refine ⟨fun _ => .inl ⟨hs, ?_⟩, fun hne => absurd hstrap hne⟩
      cases c <;> simp [writes] at hw ⊢

/-! ## The view's invariant (R48, R50 to R53) -/

/-- The view's invariant asks for the view, and outside CONFIG for the mask and the strap number. -/
theorem State.viewInv_congr {s t : State} (hwords : s.ctl.state ≠ .config → t.ps.words = s.ps.words)
    (hstrap : t.ctl.strap = s.ctl.strap) (hconfig : t.ctl.state = .config ↔ s.ctl.state = .config)
    (hview : t.pt.view = s.pt.view) (h : s.viewInv) : t.viewInv := by
  have hown : t.own = s.own := hstrap
  by_cases hc : s.ctl.state = .config
  · simpa only [State.viewInv, hview, hconfig, hc, if_true] using h
  · simpa only [State.viewInv, hview, hconfig, hc, if_false, hown,
      State.expectedPeers_of_words (hwords hc) hstrap] using h

theorem participantsOf_never (own : Station) (peers : List Station) :
    participantsOf own (peers.map fun n => ⟨n, .never, none⟩) = [own] := by
  have h : ∀ own : Station, allStations.filter (fun n => n == own) = [own] := by decide
  rw [← h own, participantsOf]
  congr 1
  funext n
  simp [AgeClass.participates]

/-- Every expected peer is reserved while none has been heard. -/
theorem State.reservedOf_never (s : State) :
    reservedOf (s.expectedPeers.map fun n => ⟨n, .never, none⟩) = s.expectedPeers := by
  have hmem (n : Station) : (n ∈ s.expectedPeers) = (n ∈ s.expected ∧ n ≠ s.own) := by
    simp [State.expectedPeers]
  unfold reservedOf
  conv_rhs => rw [State.expectedPeers, State.expected, stationsOf, List.filter_filter]
  congr 1
  funext n
  rw [Bool.eq_iff_iff]
  simp [AgeClass.participates, hmem, State.expected, mem_stationsOf, and_comm]

theorem State.enterListen_viewInv (s : State) : s.enterListen.viewInv := by
  have hpeers : s.enterListen.expectedPeers = s.expectedPeers := State.expectedPeers_of_words rfl rfl
  refine ⟨?_, (participantsOf_never s.own s.expectedPeers).symm, s.reservedOf_never.symm⟩
  rw [if_neg (by nofun), hpeers]
  show (s.expectedPeers.map _).map _ = _
  rw [List.map_map]
  exact List.map_id _

theorem State.takeStart_viewInv {s : State} (h : s.viewInv) : s.takeStart.viewInv := by
  cases hc : s.ctl.state with
  | config =>
    cases hv : s.validate with
    | none =>
      rw [State.takeStart_of_valid hc hv]
      exact State.enterListen_viewInv _
    | some refusal =>
      rw [State.takeStart_of_invalid hc hv]
      exact h
  | listen => rwa [State.takeStart_of_started (.inl hc)]
  | run => rwa [State.takeStart_of_started (.inr (.inl hc))]
  | stopping => rwa [State.takeStart_of_started (.inr (.inr hc))]
  | stopped =>
    rw [State.takeStart_of_stopped hc]
    split
    · exact h
    · exact State.enterListen_viewInv s

/-- The view that a latch leaves: the copy, with the marks of the two checks (R48, R55, R57). -/
theorem State.latchView_view (s : State) :
    s.latchView.pt.view = { s.copiedView with
      disagreement := s.latchView.pt.view.disagreement, mismatch := s.latchView.pt.view.mismatch } := by
  unfold State.latchView
  dsimp only
  split
  · rw [State.loseInHandover_frame, State.copyView_frame]
  · rw [State.checkDigests_frame, State.checkDemands_frame, State.loseInHandover_frame, State.copyView_frame]

theorem State.latchView_viewInv {s : State} (hlife : s.lifeInv) : s.latchView.viewInv := by
  obtain ⟨-, -, -, -, -, -, htable⟩ := hlife
  have hentries : s.latchView.pt.view.entries = s.copiedView.entries := by rw [s.latchView_view]
  have hctl : s.latchView.ctl = s.ctl := of_frame State.ctl s.latchView_frame rfl
  have hown : s.latchView.own = s.own := congrArg Control.strap hctl
  have hpeers : s.latchView.expectedPeers = s.expectedPeers :=
    State.expectedPeers_of_words (of_frame (·.ps.words) s.latchView_frame rfl) hown
  have hstations : s.grownEntries.map (fun e => (s.viewEntry e).station) = s.pt.entries.map (fun e => e.station) := by
    rw [State.grownEntries, List.map_map]
    rfl
  refine ⟨?_, ?_, ?_⟩
  · rw [hentries, hctl, hpeers, ← htable, ← hstations]
    by_cases hc : s.ctl.state = .config
    · have hnil : s.pt.entries = [] := by simpa [hc] using htable
      simp [State.copiedView, hc, State.grownEntries, hnil]
    · simp [State.copiedView, hc, List.map_map, Function.comp_def]
  · rw [hentries, hctl, hown, s.latchView_view]
    by_cases hc : s.ctl.state = .config <;> simp [State.copiedView, hc]
  · rw [hentries, s.latchView_view]
    rfl

theorem effect_viewInv (c : Instr) {s : State} (hlife : s.lifeInv) (h : s.viewInv) : (effect c s).viewInv := by
  rcases effect_cases c s with hc | hs | ⟨-, hc, words, p, u, hw⟩ | ⟨arg, words, rfl⟩ | ⟨arg, words, rfl⟩ | ⟨-, hv⟩
    | ⟨-, hh⟩ | ⟨-, hsh⟩ | ⟨bytes, -, hc, hf⟩
  · rcases effect_of_clears hc s with ⟨u, _, _, _, hu⟩ | hu <;> rw [hu]
    · exact ⟨rfl, rfl, rfl⟩
    · exact h
  · exact State.viewInv_congr (fun _ => by rw [hs.ps]) (by rw [hs.ctl]) (by rw [hs.ctl]) (by rw [hs.pt]) h
  · rw [hw]
    exact State.viewInv_congr (fun hne => absurd hc hne) rfl Iff.rfl rfl h
  · exact State.takeStart_viewInv h
  · have hframe := State.takeStop_frame (s.deliver (1 + words.length))
    have hconfig : (effect (.stop arg words) s).ctl.state = .config ↔ s.ctl.state = .config := by
      rcases (s.deliver (1 + words.length)).takeStop_state with h | ⟨h, hl⟩ | ⟨h, hl⟩
      · exact iff_of_eq (congrArg (· = _) h)
      · exact iff_of_false (fun h' => nomatch hl.symm.trans h') (fun h' => nomatch h.symm.trans h')
      · exact iff_of_false (fun h' => nomatch hl.symm.trans h') (fun h' => nomatch h.symm.trans h')
    exact State.viewInv_congr (s := s) (fun _ => of_frame (·.ps.words) hframe rfl) (of_frame (·.ctl.strap) hframe rfl) hconfig
      (of_frame (·.pt.view) hframe rfl) h
  · rw [hv]
    exact State.latchView_viewInv hlife
  · rw [hh, s.stepHandover_frame]
    exact State.viewInv_congr (fun _ => rfl) rfl Iff.rfl rfl h
  · rw [hsh]
    refine State.viewInv_congr (fun _ => ?_) ?_ ?_ ?_ h
    · rw [s.shapeCommand_frame]
    · rw [s.shapeCommand_frame]
    · rw [s.shapeCommand_ctl]
      exact s.tested_state_config_iff
    · rw [s.shapeCommand_frame]
  · rw [hf]
    refine State.viewInv_congr (fun _ => ?_) ?_ (iff_of_false ?_ hc) ?_ h
    · rw [s.receiveFrame_frame]
    · rw [s.receiveFrame_frame]
    · rcases s.receiveFrame_ctl bytes with h | ⟨-, l, h, hl⟩ <;> rw [h]
      · exact hc
      · rcases hl with rfl | ⟨-, rfl⟩
        · exact hc
        · nofun
    · rw [s.receiveFrame_frame]

/-- Settles O58. -/
theorem viewInvariantIsKept : Obligations.ViewInvariantIsKept := fun _ _ hlife hview hstep =>
  (step_keeps (P := fun u => u.lifeInv ∧ u.viewInv) (fun _ _ hs => hs)
    (fun c _ ⟨hl, hv⟩ => ⟨effect_lifeInv c hl, effect_viewInv c hl hv⟩) ⟨hlife, hview⟩ hstep).2

end Sys2Proof.Machine
end

section
/-! PROOFS. The Handover Unit as originator: its trigger, its step with a record open, and the bounds of an open record
(07_torque_handover.md, 7.1 to 7.4). -/

namespace Sys2Proof.Machine

/-! ## Parameters as the statements spell them (R203) -/

/-- A parameter is its word held to the range of its row. -/
theorem State.param_eq (s : State) {i lo hi : Nat} (hlo : (paramRow i).lo = lo) (hhi : (paramRow i).hi = hi) :
    s.param i = max lo (min hi (s.word i).toNat) := by
  rw [State.param, holdNat, hlo, hhi]

theorem State.param_hHo (s : State) : s.param Idx.hHo = max 50 (min 5000 (s.word 18).toNat) := s.param_eq rfl rfl

theorem State.param_tHo (s : State) : s.param Idx.tHo = max 10 (min 250 (s.word 19).toNat) := s.param_eq rfl rfl

theorem State.param_tHo_bounds (s : State) : 10 ≤ s.param Idx.tHo ∧ s.param Idx.tHo ≤ 250 :=
  s.param_le Idx.tHo (by decide)

/-! ## The step of an open record (R133 to R140) -/

/-- The hold level after one period's descent (R138, R139). -/
def HoRecord.aged (r : HoRecord) (v : PeriodView) : HoRecord := { r with timer := r.timer + 1 }.descend v

/-- The timer runs out (R138). -/
theorem State.runRecord_of_expired {s : State} {r : HoRecord} (h : s.param Idx.tHo ≤ r.timer + 1) :
    s.runRecord r = { s with hou := s.hou.close .expired }.raiseWarning .handoverExpired :=
  if_pos h

/-- The timer goes on, and the record descends (R138, R139). -/
theorem State.runRecord_of_running {s : State} {r : HoRecord} (h : r.timer + 1 < s.param Idx.tHo) :
    s.runRecord r = if (r.aged s.pt.view).complete then { s with hou := s.hou.close .completed }
      else { s with hou := { s.hou with record := some (r.aged s.pt.view) } } :=
  if_neg (Nat.not_le.2 h)

/-- The timer runs out, or the record descends and is complete, or it stays open (R138 to R140). -/
theorem State.runRecord_cases (s : State) (r : HoRecord) :
    (s.param Idx.tHo ≤ r.timer + 1
      ∧ s.runRecord r = { s with hou := s.hou.close .expired }.raiseWarning .handoverExpired)
    ∨ (r.timer + 1 < s.param Idx.tHo ∧ s.runRecord r = { s with hou := s.hou.close .completed })
    ∨ (r.timer + 1 < s.param Idx.tHo
      ∧ s.runRecord r = { s with hou := { s.hou with record := some (r.aged s.pt.view) } }) := by
  rcases Nat.lt_or_ge (r.timer + 1) (s.param Idx.tHo) with ht | ht
  · rw [State.runRecord_of_running ht]
    split
    · exact .inr (.inl ⟨ht, rfl⟩)
    · exact .inr (.inr ⟨ht, rfl⟩)
  · exact .inl ⟨ht, State.runRecord_of_expired ht⟩

/-- The changes of 7.3 that close a record Cancelled (R133 to R136). -/
def State.cancels (s : State) (r : HoRecord) : Prop :=
  s.slu.sign ≠ r.sign ∨ s.pt.view.immediate = true ∨ r.origin ≤ s.pt.view.limit r.sign
    ∨ (s.limitMoved r.sign = true ∧ r.lHo ≤ s.hoTarget r.sign)

/-- The record that a step not cancelling it goes on with: retargeted where its limit has moved (R136). -/
def State.carried (s : State) (r : HoRecord) : HoRecord :=
  if s.limitMoved r.sign then r.retarget (s.hoTarget r.sign) (nextTag s.hou.tagCounter) else r

/-- The tag counter after such a step (R132, R136). -/
def State.carriedCounter (s : State) (r : HoRecord) : Tag :=
  if s.limitMoved r.sign then nextTag s.hou.tagCounter else s.hou.tagCounter

theorem State.carried_eq (s : State) (r : HoRecord) : s.carried r = { r with
    target := (s.carried r).target, tag := (s.carried r).tag, peers := (s.carried r).peers } := by
  unfold State.carried
  split <;> rfl

theorem State.stepRecord_of_cancels {s : State} {r : HoRecord} (h : s.cancels r) :
    s.stepRecord r = { s with hou := s.hou.close .cancelled } := by
  unfold State.stepRecord
  by_cases h1 : s.slu.sign ≠ r.sign
  · exact if_pos h1
  rw [if_neg h1]
  by_cases h2 : s.pt.view.immediate = true
  · exact if_pos h2
  rw [if_neg h2]
  by_cases h3 : r.origin ≤ s.pt.view.limit r.sign
  · exact if_pos h3
  rw [if_neg h3]
  obtain h | h | h | ⟨hmoved, hlow⟩ := h
  · exact absurd h h1
  · exact absurd h h2
  · exact absurd h h3
  · rw [if_pos hmoved, if_pos hlow]

theorem State.stepRecord_of_carried {s : State} {r : HoRecord} (h : ¬s.cancels r) :
    s.stepRecord r
      = { s with hou := { s.hou with tagCounter := s.carriedCounter r } }.runRecord (s.carried r) := by
  unfold State.cancels at h
  simp only [not_or] at h
  obtain ⟨h1, h2, h3, h4⟩ := h
  unfold State.stepRecord State.carried State.carriedCounter
  rw [if_neg h1, if_neg h2, if_neg h3]
  by_cases hmoved : s.limitMoved r.sign = true
  · rw [if_pos hmoved, if_pos hmoved, if_pos hmoved, if_neg fun hlow => h4 ⟨hmoved, hlow⟩]
  · rw [if_neg hmoved, if_neg hmoved, if_neg hmoved]

theorem State.moveRecord_of_open {s : State} {r : HoRecord} (h : s.hou.record = some r) :
    s.moveRecord = s.stepRecord r := by
  simp only [State.moveRecord, h]

theorem State.moveRecord_of_none {s : State} (h : s.hou.record = none) :
    s.moveRecord = if s.handoverTrigger then { s with hou := s.openRecord } else s := by
  simp only [State.moveRecord, h]

/-- A record that is open after a step: one that the trigger has just opened, or one that has been carried on and aged
(R131, R136, R138, R139). -/
theorem State.moveRecord_record {s : State} {r' : HoRecord} (h : s.moveRecord.hou.record = some r') :
    (s.hou.record = none ∧ s.handoverTrigger = true ∧ s.openRecord.record = some r')
    ∨ ∃ r, s.hou.record = some r ∧ ¬s.cancels r ∧ (s.carried r).timer + 1 < s.param Idx.tHo
        ∧ r' = (s.carried r).aged s.pt.view := by
  cases hr : s.hou.record with
  | none =>
    rw [State.moveRecord_of_none hr] at h
    by_cases ht : s.handoverTrigger = true
    · rw [if_pos ht] at h
      exact .inl ⟨rfl, ht, h⟩
    · rw [if_neg ht, hr] at h
      exact nomatch h
  | some r =>
    rw [State.moveRecord_of_open hr] at h
    by_cases hc : s.cancels r
    · rw [State.stepRecord_of_cancels hc] at h
      exact nomatch h
    rw [State.stepRecord_of_carried hc] at h
    rcases State.runRecord_cases { s with hou := { s.hou with tagCounter := s.carriedCounter r } } (s.carried r) with
      ⟨-, hrun⟩ | ⟨-, hrun⟩ | ⟨ht, hrun⟩ <;> rw [hrun] at h
    · exact nomatch h
    · exact nomatch h
    · exact .inr ⟨r, rfl, hc, ht, (Option.some.inj h).symm⟩

/-! ## The bounds of an open record (R128, R138, R139) -/

/-- The bounds of an open record, for a timeout. -/
structure HoRecord.Bounded (r : HoRecord) (tHo : Nat) : Prop where
  signed : r.sign ≠ .zero
  target_le : r.target ≤ r.lHo
  hold_le : r.lHo ≤ r.origin
  timer_lt : r.timer < tHo
  tagged : r.tag ≠ 0

theorem State.handoverInv_iff (s : State) :
    s.handoverInv ↔ ∀ r, s.hou.record = some r → s.ctl.state = .run ∧ r.Bounded (s.param Idx.tHo) := by
  unfold State.handoverInv
  cases s.hou.record with
  | none => simp
  | some r =>
    simp only [Option.all_some, Bool.and_eq_true, decide_eq_true_eq, Option.some.injEq, forall_eq']
    constructor
    · rintro ⟨⟨⟨⟨⟨hrun, hs⟩, ht⟩, ho⟩, htimer⟩, htag⟩
      exact ⟨hrun, hs, ht, ho, htimer, htag⟩
    · rintro ⟨hrun, hs, ht, ho, htimer, htag⟩
      exact ⟨⟨⟨⟨⟨hrun, hs⟩, ht⟩, ho⟩, htimer⟩, htag⟩

theorem nextTag_ne_zero : ∀ counter : Tag, nextTag counter ≠ 0 := by decide

/-- What the trigger asks for of the sign and the torques (R130). -/
theorem State.handoverTrigger_bounds {s : State} (h : s.handoverTrigger = true) :
    s.ctl.state = .run ∧ s.slu.sign ≠ .zero ∧ s.hoTarget s.slu.sign + s.param Idx.hHo < s.appliedInSign := by
  simp only [State.handoverTrigger, Bool.and_eq_true, decide_eq_true_eq] at h
  obtain ⟨⟨⟨⟨⟨⟨hrun, -⟩, hsign⟩, -⟩, happlied⟩, -⟩, -⟩ := h
  exact ⟨hrun, hsign, happlied⟩

/-- A record that goes on keeps its bounds, also where it is retargeted, and its peers. -/
theorem State.carried_bounded {s : State} {r : HoRecord} {tHo : Nat} (hc : ¬s.cancels r) (hb : r.Bounded tHo) :
    (s.carried r).Bounded tHo ∧ (s.carried r).peers.map (fun p => p.1) = r.peers.map (fun p => p.1) := by
  unfold State.carried
  by_cases hmoved : s.limitMoved r.sign = true
  · rw [if_pos hmoved]
    have hlow : s.hoTarget r.sign ≤ r.lHo := by
      by_contra hlow
      exact hc (.inr (.inr (.inr ⟨hmoved, by omega⟩)))
    refine ⟨⟨hb.signed, hlow, hb.hold_le, hb.timer_lt, nextTag_ne_zero _⟩, ?_⟩
    show (r.peers.map _).map _ = r.peers.map _
    rw [List.map_map]
    refine List.map_congr_left fun p _ => ?_
    show (if p.2 = .excused then p else (p.1, .awaiting)).1 = p.1
    split <;> rfl
  · rw [if_neg hmoved]
    exact ⟨hb, rfl⟩

theorem HoRecord.aged_bounded {r : HoRecord} {tHo : Nat} (hb : r.Bounded tHo) (ht : r.timer + 1 < tHo)
    (v : PeriodView) : (r.aged v).Bounded tHo where
  signed := hb.signed
  target_le := Nat.le_max_left _ _
  hold_le := by
    have := hb.target_le
    have := hb.hold_le
    show max r.target (r.lHo - 4 * _) ≤ r.origin
    omega
  timer_lt := ht
  tagged := hb.tagged

theorem HoRecord.aged_lHo_le {r : HoRecord} (h : r.target ≤ r.lHo) (v : PeriodView) : (r.aged v).lHo ≤ r.lHo := by
  show max r.target (r.lHo - 4 * _) ≤ r.lHo
  omega

theorem State.stepHandover_record (s : State) : s.stepHandover.hou.record = s.moveRecord.hou.record := rfl

theorem State.stepHandover_handoverInv {s : State} (h : s.handoverInv) : s.stepHandover.handoverInv := by
  have hctl : s.stepHandover.ctl = s.ctl := of_frame State.ctl s.stepHandover_frame rfl
  have hparam : s.stepHandover.param = s.param :=
    State.param_of_words (of_frame (·.ps.words) s.stepHandover_frame rfl) (congrArg Control.strap hctl)
  rw [State.handoverInv_iff] at h ⊢
  intro r' hr'
  rw [hctl, hparam]
  rcases State.moveRecord_record hr' with ⟨-, htrigger, hopen⟩ | ⟨r, hr, hc, ht, rfl⟩
  · obtain ⟨hrun, hsign, happlied⟩ := State.handoverTrigger_bounds htrigger
    have htHo := s.param_tHo_bounds
    obtain rfl := Option.some.inj hopen
    refine ⟨hrun, hsign, ?_, Nat.le_refl _, ?_, nextTag_ne_zero _⟩
    · show s.hoTarget s.slu.sign ≤ s.appliedInSign
      omega
    · show 0 < s.param Idx.tHo
      omega
  · obtain ⟨hrun, hb⟩ := h r hr
    exact ⟨hrun, HoRecord.aged_bounded (State.carried_bounded hc hb).1 ht _⟩

/-! ## What the other commands do to an open record -/

/-- A latch leaves an open record all but its peers' marks (R144). -/
theorem State.loseInHandover_record {s : State} {lost : List Station} {r' : HoRecord}
    (h : (s.loseInHandover lost).hou.record = some r') :
    ∃ r, s.hou.record = some r ∧ (r' = r ∨ r' = r.excuse lost) := by
  unfold State.loseInHandover at h
  split at h
  · exact ⟨r', h, .inl rfl⟩
  · dsimp only at h
    split at h
    · next hr => exact nomatch hr.symm.trans h
    · next r hr =>
      split at h
      · exact nomatch h
      · exact ⟨r, hr, .inr (Option.some.inj h).symm⟩

theorem State.latchView_hou (s : State) : s.latchView.hou = (s.copyView.loseInHandover s.lostNow).hou := by
  unfold State.latchView
  dsimp only
  split
  · rfl
  · rw [State.checkDigests_frame, State.checkDemands_frame]

theorem State.latchView_record {s : State} {r' : HoRecord} (h : s.latchView.hou.record = some r') :
    ∃ r, s.hou.record = some r ∧ (r' = r ∨ r' = r.excuse s.lostNow) := by
  rw [s.latchView_hou] at h
  obtain ⟨r, hr, h⟩ := State.loseInHandover_record h
  rw [s.copyView_frame] at hr
  exact ⟨r, hr, h⟩

/-- A received frame leaves an open record all but its sender's mark, or closes it (R133, R142). -/
theorem State.receiveFrame_record {s : State} {bytes : List Byte} {r' : HoRecord}
    (h : (s.receiveFrame bytes).hou.record = some r') :
    ∃ r, s.hou.record = some r ∧ (r' = r ∨ ∃ f, r' = r.absorb s.own f)
      ∧ (s.ctl.state = .run → (s.receiveFrame bytes).ctl.state = .run) := by
  rw [State.receiveFrame_eq] at h ⊢
  split at h
  · next hown => exact ⟨r', h, .inl rfl, fun hs => by rwa [if_pos hown]⟩
  next hown =>
  rw [if_neg hown]
  rcases s.endCollection.judgeFrame_cases bytes with ⟨-, hj⟩ | ⟨f, -, ⟨-, hj⟩ | ⟨-, hj⟩ | ⟨-, -, hj⟩⟩ <;>
    rw [hj] at h ⊢
  · exact ⟨r', h, .inl rfl, id⟩
  · exact ⟨r', h, .inl rfl, id⟩
  · cases hd : s.ctl.dupLatch with
    | true =>
      rw [State.reportDuplicate_of_latched (s := s.endCollection) hd] at h ⊢
      exact ⟨r', h, .inl rfl, id⟩
    | false =>
      cases hs : s.ctl.state with
      | config | stopping | stopped =>
        rw [State.reportDuplicate_of_stopped (s := s.endCollection) hd (by simp [State.endCollection, hs])] at h
        exact ⟨r', h, .inl rfl, nofun⟩
      | listen =>
        rw [State.reportDuplicate_of_listen (s := s.endCollection) hd hs] at h
        exact ⟨r', h, .inl rfl, nofun⟩
      | run =>
        rw [State.reportDuplicate_of_run (s := s.endCollection) hd hs] at h
        exact nomatch h
  · have hhou : (s.endCollection.acceptFrame f).hou.record
        = s.hou.record.map (fun r : HoRecord => r.absorb s.own f) := by
      unfold State.acceptFrame
      dsimp only
      split <;> rfl
    rw [hhou, Option.map_eq_some_iff] at h
    obtain ⟨r, hr, rfl⟩ := h
    refine ⟨r, hr, .inr ⟨f, rfl⟩, ?_⟩
    rw [State.acceptFrame_frame]
    exact id

theorem HoRecord.absorb_eq (r : HoRecord) (own : Station) (f : ShareFrame) :
    r.absorb own f = { r with peers := (r.absorb own f).peers } := by
  unfold HoRecord.absorb
  split <;> rfl

/-- Neither the mark of a lost peer nor that of an echo changes whom a record names. -/
theorem HoRecord.excuse_stations (r : HoRecord) (lost : List Station) :
    (r.excuse lost).peers.map (fun p => p.1) = r.peers.map (fun p => p.1) := by
  show (r.peers.map _).map _ = r.peers.map _
  rw [List.map_map]
  refine List.map_congr_left fun p _ => ?_
  show (if lost.contains p.1 then (p.1, HoPeer.excused) else p).1 = p.1
  split <;> rfl

theorem HoRecord.absorb_stations (r : HoRecord) (own : Station) (f : ShareFrame) :
    (r.absorb own f).peers.map (fun p => p.1) = r.peers.map (fun p => p.1) := by
  unfold HoRecord.absorb
  split
  · show (r.peers.map _).map _ = r.peers.map _
    rw [List.map_map]
    refine List.map_congr_left fun p _ => ?_
    show (if p.1 = f.sender ∧ p.2 = .awaiting then (p.1, HoPeer.absorbed) else p).1 = p.1
    split <;> rfl
  · rfl

/-- A record that only marks its peers anew. -/
def HoRecord.Marked (r r' : HoRecord) : Prop :=
  r' = { r with peers := r'.peers } ∧ r'.peers.map (fun p => p.1) = r.peers.map (fun p => p.1)

theorem HoRecord.Marked.refl (r : HoRecord) : r.Marked r := ⟨rfl, rfl⟩

theorem State.takeStop_record {s : State} {r : HoRecord} (h : s.takeStop.hou.record = some r) :
    s.takeStop.hou.record = s.hou.record ∧ s.ctl.state ≠ .run := by
  cases hc : s.ctl.state with
  | config => exact ⟨by rw [State.takeStop_of_config hc]; rfl, nofun⟩
  | listen => exact ⟨by rw [State.takeStop_of_listen hc]; rfl, nofun⟩
  | stopping => exact ⟨by rw [State.takeStop_of_stopped (.inl hc)], nofun⟩
  | stopped => exact ⟨by rw [State.takeStop_of_stopped (.inr hc)], nofun⟩
  | run =>
    rw [State.takeStop_of_run hc, State.leaveRun_eq] at h
    exact nomatch h

/-- Where a record is open after a command, the step has moved it, or it was open before in a station that goes on in
RUN, and the command has marked its peers at most. -/
theorem effect_record {c : Instr} {s : State} {r' : HoRecord} (hinv : s.handoverInv)
    (h : (effect c s).hou.record = some r') :
    effect c s = s.stepHandover
    ∨ ∃ r, s.hou.record = some r ∧ r.Marked r' ∧ (effect c s).ctl.state = .run
        ∧ (effect c s).param = s.param := by
  have hopen {r : HoRecord} (hr : s.hou.record = some r) : s.ctl.state = .run := (s.handoverInv_iff.1 hinv r hr).1
  have hparam (hclear : clears c = false) (hs : s.ctl.state = .run) : (effect c s).param = s.param := by
    obtain ⟨hwords | ⟨hconfig, -⟩, hstrap⟩ := effect_words hclear s
    · exact State.param_of_words hwords hstrap
    · exact nomatch hs.symm.trans hconfig
  rcases effect_cases c s with hc | hs | ⟨-, hc, words, p, u, hw⟩ | ⟨arg, words, rfl⟩ | ⟨arg, words, rfl⟩ | ⟨rfl, hv⟩
    | ⟨-, hh⟩ | ⟨rfl, hsh⟩ | ⟨bytes, rfl, hc, hf⟩
  · rcases effect_of_clears hc s with ⟨u, _, _, _, hu⟩ | hu <;> rw [hu] at h ⊢
    · exact nomatch h
    · exact .inr ⟨r', h, .refl r', hopen h, State.param_of_words rfl rfl⟩
  · rw [hs.hou] at h
    exact .inr ⟨r', h, .refl r', by rw [hs.ctl]; exact hopen h,
      State.param_of_words (by rw [hs.ps]) (by rw [hs.ctl])⟩
  · rw [hw] at h
    exact nomatch (hopen h).symm.trans hc
  · have hr : s.hou.record = some r' := (of_frame (·.hou.record) (State.takeStart_frame (s.deliver _)) rfl).symm.trans h
    have hstart := State.takeStart_of_started (s := s.deliver (1 + words.length)) (.inr (.inl (hopen hr)))
    exact .inr ⟨r', hr, .refl r', (congrArg (·.ctl.state) hstart).trans (hopen hr), hparam rfl (hopen hr)⟩
  · obtain ⟨hsame, hstate⟩ := State.takeStop_record (s := s.deliver (1 + words.length)) h
    exact absurd (hopen (hsame.symm.trans h)) hstate
  · rw [hv] at h
    obtain ⟨r, hr, hmark⟩ := State.latchView_record h
    refine .inr ⟨r, hr, ?_, ?_, hparam rfl (hopen hr)⟩
    · rcases hmark with rfl | rfl
      · exact .refl _
      · exact ⟨rfl, r.excuse_stations _⟩
    · rw [hv, s.latchView_frame]
      exact hopen hr
  · exact .inl hh
  · rw [hsh, s.shapeCommand_frame] at h
    refine .inr ⟨r', h, .refl r', ?_, hparam rfl (hopen h)⟩
    rw [hsh, s.shapeCommand_ctl]
    rcases s.tested_cases with ⟨-, -, ht⟩ | ⟨hs, -, -⟩ | ⟨hs, -, -⟩ | ⟨-, -, ht⟩
    · rw [ht]
    · exact nomatch (hopen h).symm.trans hs
    · exact nomatch (hopen h).symm.trans hs
    · rw [ht]
      exact hopen h
  · rw [hf] at h
    obtain ⟨r, hr, hmark, hrun⟩ := State.receiveFrame_record h
    refine .inr ⟨r, hr, ?_, by rw [hf]; exact hrun (hopen hr), hparam rfl (hopen hr)⟩
    rcases hmark with rfl | ⟨f, rfl⟩
    · exact .refl _
    · exact ⟨r.absorb_eq _ _, r.absorb_stations _ _⟩

theorem effect_handoverInv (c : Instr) {s : State} (h : s.handoverInv) : (effect c s).handoverInv := by
  rw [State.handoverInv_iff]
  intro r' hr'
  rcases effect_record h hr' with hstep | ⟨r, hr, ⟨heq, -⟩, hrun, hparam⟩
  · rw [hstep] at hr' ⊢
    exact (State.handoverInv_iff _).1 (State.stepHandover_handoverInv h) r' hr'
  · obtain ⟨-, hb⟩ := s.handoverInv_iff.1 h r hr
    rw [hparam, heq]
    exact ⟨hrun, hb.signed, hb.target_le, hb.hold_le, hb.timer_lt, hb.tagged⟩

/-- Settles O34. -/
theorem openRecordStaysInBounds : Obligations.OpenRecordStaysInBounds :=
  fun _ _ h hstep => step_keeps (P := State.handoverInv) (fun _ _ hs => hs) (fun c _ hs => effect_handoverInv c hs) h hstep

/-- A record that stays open through a command goes down only, for the same sign, from the same torque, with the same
peers (R128, R139). -/
theorem effect_hold_level {c : Instr} {s : State} {r r' : HoRecord} (hinv : s.handoverInv) (hr : s.hou.record = some r)
    (hr' : (effect c s).hou.record = some r') :
    r'.lHo ≤ r.lHo ∧ r.timer ≤ r'.timer ∧ r'.sign = r.sign ∧ r'.origin = r.origin
      ∧ r'.peers.map (fun p => p.1) = r.peers.map (fun p => p.1) := by
  rcases effect_record hinv hr' with hstep | ⟨q, hq, ⟨heq, hpeers⟩, -⟩
  · rw [hstep, State.stepHandover_record] at hr'
    rcases State.moveRecord_record hr' with ⟨hnone, -⟩ | ⟨q, hq, hc, -, rfl⟩
    · exact nomatch hr.symm.trans hnone
    · obtain rfl := Option.some.inj (hr.symm.trans hq)
      obtain ⟨hb, hpeers⟩ := State.carried_bounded hc (s.handoverInv_iff.1 hinv r hr).2
      have hlHo := HoRecord.aged_lHo_le hb.target_le s.pt.view
      rw [s.carried_eq r] at hlHo ⊢
      exact ⟨hlHo, Nat.le_succ _, rfl, rfl, hpeers⟩
  · obtain rfl := Option.some.inj (hr.symm.trans hq)
    rw [heq]
    exact ⟨Nat.le_refl _, Nat.le_refl _, rfl, rfl, hpeers⟩

/-- Settles O35. -/
theorem holdLevelNeverRises : Obligations.HoldLevelNeverRises := by
  intro s t r r' hinv hstep hr hr'
  have hrefl : r'.lHo ≤ r'.lHo ∧ r'.timer ≤ r'.timer ∧ r'.sign = r'.sign ∧ r'.origin = r'.origin
      ∧ r'.peers.map (fun p => p.1) = r'.peers.map (fun p => p.1) := ⟨Nat.le_refl _, Nat.le_refl _, rfl, rfl, rfl⟩
  rcases step_cases hstep with rfl | ⟨c, rest, hexec⟩
  · obtain rfl := Option.some.inj (hr.symm.trans hr')
    exact hrefl
  · rcases exec_cases hexec with rfl | rfl
    · obtain rfl := Option.some.inj (hr.symm.trans hr')
      exact hrefl
    · exact effect_hold_level (s := { s with pending := rest }) hinv hr hr'

end Sys2Proof.Machine
end

section
/-! PROOFS. HANDOVER_STEP, spelled out: the trigger, the changes of an open record (07_torque_handover.md, 7.1 to 7.4). -/

namespace Sys2Proof.Machine

/-! ## The trigger (R130, R131) -/

theorem PeriodView.limit_eq (v : PeriodView) (g : Sign) : v.limit g
    = if g = .positive then v.driveLimit else if g = .negative then v.regenLimit
      else max v.driveLimit v.regenLimit := by
  cases g <;> rfl

theorem limitOf_eq (a b : Nat) (g : Sign) : limitOf (a, b) g
    = if g = .positive then a else if g = .negative then b else max a b := by
  cases g <;> rfl

/-- The participants of the view that announce RUN, in the view's order (R130). -/
theorem State.runningPeers_eq (s : State) :
    s.runningPeers = (s.pt.view.entries.filter (fun e => (e.cls = .fresh || e.cls = .grace)
      && e.record.any (fun r => r.frame.state = .run))).map (fun e => e.station) := by
  unfold State.runningPeers PeriodView.peers
  induction s.pt.view.entries with
  | nil => rfl
  | cons e entries ih =>
    obtain ⟨station, cls, record⟩ := e
    cases record with
    | none => cases cls <;> simpa [List.filterMap_cons, List.filter_cons, ViewEntry.participant, AgeClass.participates] using ih
    | some r =>
      by_cases hrun : r.frame.state = .run <;> cases cls <;>
        simpa [List.filterMap_cons, List.filter_cons, ViewEntry.participant, AgeClass.participates, hrun] using ih

theorem State.limitFell_iff (s : State) : s.limitFell = true ↔
    ∃ a b, s.hou.prevLimits = some (a, b) ∧ s.pt.view.limit s.slu.sign < limitOf (a, b) s.slu.sign := by
  unfold State.limitFell
  cases s.hou.prevLimits with
  | none => simp
  | some prev =>
    obtain ⟨a, b⟩ := prev
    simp

/-- All the conditions of the trigger (R130). -/
theorem State.handoverTrigger_iff (s : State) : s.handoverTrigger = true ↔
    s.ctl.state = .run ∧ s.pt.view.isolated = false ∧ s.slu.sign ≠ .zero
      ∧ (∃ a b, s.hou.prevLimits = some (a, b) ∧ s.pt.view.limit s.slu.sign < limitOf (a, b) s.slu.sign)
      ∧ s.hoTarget s.slu.sign + s.param Idx.hHo < s.appliedInSign ∧ s.pt.view.immediate = false
      ∧ s.runningPeers ≠ [] := by
  rw [← s.limitFell_iff]
  simp only [State.handoverTrigger, Bool.and_eq_true, decide_eq_true_eq, Bool.not_eq_true', List.isEmpty_eq_false_iff,
    and_assoc]

theorem exec_handoverStep {s : State} (ha : s.active = true) (hs : s.stage = .slip) :
    exec .handoverStep s = .next s.stepHandover :=
  onPublication_of_awaited ha hs _

/-- Settles O32. -/
theorem handoverOpensOnItsTrigger : Obligations.HandoverOpensOnItsTrigger := by
  intro s ha hs hr v limits applied target running trigger tag
  have hlimit : limits v.driveLimit v.regenLimit = v.limit s.slu.sign := (v.limit_eq _).symm
  have htrigger : trigger ↔ s.handoverTrigger = true := by
    simp only [s.handoverTrigger_iff, s.runningPeers_eq, limitOf_eq, s.param_hHo, trigger, hlimit, target]
    rfl
  have hmove := State.moveRecord_of_none hr
  refine ⟨fun h => ?_, fun h => ?_⟩
  · rw [exec_handoverStep ha hs, State.stepHandover, hmove, if_pos (htrigger.1 h)]
    simp only [State.openRecord, s.runningPeers_eq, State.hoTarget, ← hlimit, v]
    rfl
  · rw [exec_handoverStep ha hs, State.stepHandover, hmove, if_neg (mt htrigger.2 h)]
    simp only [hr]
    rfl

/-! ## The changes of an open record (R133 to R140) -/

theorem State.limitMoved_iff (s : State) (g : Sign) : s.limitMoved g = true ↔
    ∃ a b, s.hou.prevLimits = some (a, b) ∧ s.pt.view.limit g ≠ limitOf (a, b) g := by
  unfold State.limitMoved
  cases s.hou.prevLimits with
  | none => simp
  | some prev =>
    obtain ⟨a, b⟩ := prev
    simp

/-- The step of an open record ends with the limits stored, and publishes the hold level of a record left open (R129). -/
theorem State.stepHandover_of_open {s : State} {r : HoRecord} (hr : s.hou.record = some r) :
    s.stepHandover = { s.stepRecord r with
      hou := { (s.stepRecord r).hou with
        prevLimits := some (s.pt.view.driveLimit, s.pt.view.regenLimit)
        published := (s.stepRecord r).hou.record.map (fun q => q.lHo) }
      stage := .hold } := by
  rw [State.stepHandover, State.moveRecord_of_open hr]

theorem HoRecord.complete_iff (r : HoRecord) : r.complete = true ↔ r.lHo = r.target ∧ ∀ p ∈ r.peers, p.2 ≠ .awaiting := by
  simp [HoRecord.complete]

theorem HoRecord.not_complete_iff (r : HoRecord) :
    r.complete = false ↔ r.lHo ≠ r.target ∨ ∃ p ∈ r.peers, p.2 = .awaiting := by
  rw [← Bool.not_eq_true, HoRecord.complete_iff, not_and_or]
  simp

/-- Settles O33. -/
theorem openRecordStep : Obligations.OpenRecordStep := by
  intro s r ha hs hr hsign v limit moved newTarget cancelled tHo frozen
  have hlimit : v.limit r.sign = limit := by
    cases hg : r.sign with
    | zero => exact absurd hg hsign
    | negative => simp [limit, hg, PeriodView.limit]
    | positive => simp [limit, hg, PeriodView.limit]
  have hmoved : moved ↔ s.limitMoved r.sign = true := by
    rw [s.limitMoved_iff]
    have hlimitOf (a b : Nat) : limitOf (a, b) r.sign = if r.sign = .positive then a else b := by
      cases hg : r.sign with
      | zero => exact absurd hg hsign
      | negative => rfl
      | positive => rfl
    simp only [moved, hlimitOf, ← hlimit, v]
  have hcancel : cancelled ↔ s.cancels r := by
    simp only [cancelled, State.cancels, hmoved, newTarget, ← hlimit, State.hoTarget, v]
  have hexec := (exec_handoverStep ha hs).trans (congrArg Host.Outcome.next (State.stepHandover_of_open hr))
  refine ⟨fun h => ?_, fun h => ?_⟩
  · rw [hexec, State.stepRecord_of_cancels (hcancel.1 h)]
    rfl
  have hstep := State.stepRecord_of_carried (mt hcancel.2 h)
  refine ⟨(s.carried r).target, (s.carried r).tag, (s.carried r).peers, fun hm => ?_, fun hm => ?_,
    s.carriedCounter r, fun hm => ?_, fun hm => ?_, fun ht => ?_, fun ht => ?_⟩
  · rw [State.carried, if_pos (hmoved.1 hm)]
    simp only [HoRecord.retarget, State.hoTarget, newTarget, ← hlimit, nextTag, v, and_self]
  · rw [State.carried, if_neg (mt hmoved.2 hm)]
    exact ⟨rfl, rfl, rfl⟩
  · rw [State.carriedCounter, if_pos (hmoved.1 hm)]
    rfl
  · rw [State.carriedCounter, if_neg (mt hmoved.2 hm)]
  · have hexpired := State.runRecord_of_expired (s := { s with hou := { s.hou with tagCounter := s.carriedCounter r } })
      (r := s.carried r) (by rw [s.carried_eq r]; exact s.param_tHo ▸ ht)
    rw [hexec, hstep, hexpired]
    rfl
  · have hrunning := State.runRecord_of_running (s := { s with hou := { s.hou with tagCounter := s.carriedCounter r } })
      (r := s.carried r) (by rw [s.carried_eq r]; exact s.param_tHo ▸ ht)
    have haged : (s.carried r).aged v = { r with
        tag := (s.carried r).tag, target := (s.carried r).target, peers := (s.carried r).peers, timer := r.timer + 1
        lHo := ((s.carried r).aged v).lHo } := by
      rw [s.carried_eq r]
      rfl
    have hlHo : ((s.carried r).aged v).lHo = max (s.carried r).target (r.lHo - 4 * (s.carried r).absorbedRise v) := by
      conv_lhs => rw [s.carried_eq r]
      rfl
    refine ⟨fun hl hp => ?_, fun hl => ?_⟩
    · have hcomplete : ((s.carried r).aged v).complete = true := by
        rw [HoRecord.complete_iff, hlHo]
        exact ⟨hl, hp⟩
      rw [hexec, hstep, hrunning, if_pos hcomplete]
      rfl
    · have hopen : ((s.carried r).aged v).complete = false := by
        rw [HoRecord.not_complete_iff, hlHo]
        exact hl
      rw [hexec, hstep, hrunning, if_neg (by rw [hopen]; exact Bool.false_ne_true)]
      dsimp only
      rw [haged, hlHo]
      rfl

end Sys2Proof.Machine
end

section
/-! PROOFS. Validation of the store at START (R6, R7, R203). -/

namespace Sys2Proof.Machine

/-! ## The first element of a sorted list that meets a test -/

/-- In an ascending list the first element that meets a test is the least that does. -/
theorem find?_of_ascending {l : List Nat} (hl : l.Pairwise (· < ·)) {p : Nat → Bool} {i : Nat}
    (h : l.find? p = some i) : p i = true ∧ i ∈ l ∧ ∀ j ∈ l, j < i → p j = false := by
  rw [List.find?_eq_some_iff_append] at h
  obtain ⟨hi, before, after, rfl, hbefore⟩ := h
  refine ⟨hi, by simp, fun j hj hlt => ?_⟩
  rw [List.pairwise_append] at hl
  obtain ⟨-, hsorted, -⟩ := hl
  rw [List.pairwise_cons] at hsorted
  rw [List.mem_append, List.mem_cons] at hj
  rcases hj with hj | rfl | hj
  · simpa using hbefore j hj
  · exact absurd hlt (Nat.lt_irrefl j)
  · exact absurd (hsorted.1 j hj) (by omega)

theorem rangeIndices_ascending : rangeIndices.Pairwise (· < ·) := by decide

theorem profileIndices_ascending : profileIndices.Pairwise (· < ·) := by decide

theorem patternIndices_ascending : patternIndices.Pairwise (· < ·) := by decide

theorem mem_rangeIndices {i : Nat} : i ∈ rangeIndices ↔ (5 ≤ i ∧ i ≤ 53) ∨ (134 ≤ i ∧ i ≤ 148) := by
  simp only [rangeIndices, List.mem_append, List.mem_range'_1]
  omega

theorem mem_profileIndices {i : Nat} : i ∈ profileIndices ↔ 54 ≤ i ∧ i ≤ 117 := by
  simp only [profileIndices, List.mem_range'_1]
  omega

theorem mem_patternIndices {i : Nat} : i ∈ patternIndices ↔ 118 ≤ i ∧ i ≤ 133 := by
  simp only [patternIndices, List.mem_range'_1]
  omega

/-! ## The checks (R7) -/

/-- A store index with an unsigned range of its own is judged by its row (R203). -/
theorem State.outOfRange_of_row (s : State) {i : Nat} (h : i ≠ 11 ∧ i ≠ 136 ∧ i ≠ 137) :
    s.outOfRange i = true ↔ (s.word i).toNat < (paramRow i).lo ∨ (paramRow i).hi < (s.word i).toNat := by
  obtain ⟨h1, h2, h3⟩ := h
  unfold State.outOfRange
  dsimp only
  rw [if_neg h1, if_neg (not_or.2 ⟨h2, h3⟩), decide_eq_true_eq]

theorem State.outOfRange_sHys (s : State) : s.outOfRange 11 = true ↔ (s.word 10).toNat ≤ (s.word 11).toNat := by
  unfold State.outOfRange
  dsimp only
  rw [if_pos rfl, decide_eq_true_eq]

theorem State.outOfRange_trim (s : State) {i : Nat} (h : i = 136 ∨ i = 137) :
    s.outOfRange i = true ↔ (s.word i).toInt < -50 ∨ 50 < (s.word i).toInt := by
  have h11 : i ≠ Idx.sHys := by rcases h with rfl | rfl <;> decide
  unfold State.outOfRange trimOutOfRange
  dsimp only
  rw [if_neg h11, if_pos h, decide_eq_true_eq]

theorem paramRow_weights : ∀ i ∈ List.range' 22 32, paramRow i = ⟨i, 0, 255, 1⟩ := by decide

theorem State.badProfile_iff (s : State) (i : Nat) : s.badProfile i = false ↔ (s.word i).toNat ≤ 7 := by
  simp [State.badProfile]

theorem State.badPattern_iff (s : State) (i : Nat) : s.badPattern i = true ↔
    8 < (s.word i).toNat / 256 ∨ 12 < (s.word i).toNat % 256 ∨ (i = 118 ∧ s.word i ≠ 0x0800) := by
  have hword : (s.word i).toNat ≠ 0x0800 ↔ s.word i ≠ 0x0800 := by
    rw [ne_eq, ne_eq, ← BitVec.toNat_inj]
    rfl
  simp only [State.badPattern, Bool.or_eq_true, decide_eq_true_eq, Bool.and_eq_true, beq_iff_eq, bne_iff_ne, hword,
    or_assoc]

theorem State.badPattern_false_iff (s : State) (i : Nat) : s.badPattern i = false ↔
    ((s.word i).toNat / 256 ≤ 8 ∧ (s.word i).toNat % 256 ≤ 12) ∧ (i = 118 → s.word i = 0x0800) := by
  rw [← Bool.not_eq_true, s.badPattern_iff]
  simp only [not_or, not_and, not_lt, ne_eq, not_not, and_assoc]

theorem State.namesSet_iff (s : State) (k : Nat) : s.namesSet k = true ↔
    (∃ i, 54 ≤ i ∧ i ≤ 117 ∧ (s.word i).toNat = k) ∨ ∃ i, 118 ≤ i ∧ i ≤ 133 ∧ (s.word i).toNat / 256 = k := by
  simp only [State.namesSet, Bool.or_eq_true, List.any_eq_true, beq_iff_eq, mem_profileIndices, mem_patternIndices,
    and_assoc]

theorem State.weightSum_eq_zero_iff (s : State) (k : Nat) : s.weightSum k = 0 ↔
    ∀ n : Station, (s.word 4).getLsbD n.val = true → (s.word (22 + 4 * k + n.val)).toNat = 0 := by
  simp only [State.weightSum, List.sum_eq_zero_iff, List.mem_map, forall_exists_index, and_imp,
    forall_apply_eq_imp_iff₂, State.mem_expected, State.weight]

theorem State.emptySet_iff (s : State) (k : Nat) : s.emptySet k = true ↔
    ((∃ i, 54 ≤ i ∧ i ≤ 117 ∧ (s.word i).toNat = k) ∨ ∃ i, 118 ≤ i ∧ i ≤ 133 ∧ (s.word i).toNat / 256 = k)
      ∧ ∀ n : Station, (s.word 4).getLsbD n.val = true → (s.word (22 + 4 * k + n.val)).toNat = 0 := by
  rw [State.emptySet, Bool.and_eq_true, beq_iff_eq, s.namesSet_iff, s.weightSum_eq_zero_iff]

/-! ## The refusal record (R7, R9) -/

/-- The checks of the mask pass: its value, the own station in it, another beside it (R7 checks 1 and 2, R203). -/
structure State.MaskPasses (s : State) : Prop where
  value : (s.word 4).toNat ≤ 15
  own : s.own ∈ s.expected
  peers : 2 ≤ s.expected.length

/-- The codes and indices validation gives, check by check: the checks before have passed, and the index is the first
offending one. -/
inductive State.Refused (s : State) : Nat → Nat → Prop where
  | mask (h : 15 < (s.word 4).toNat) : s.Refused 3 4
  | own (hvalue : (s.word 4).toNat ≤ 15) (h : s.own ∉ s.expected) : s.Refused 1 4
  | peers (hvalue : (s.word 4).toNat ≤ 15) (hown : s.own ∈ s.expected) (h : s.expected.length < 2) : s.Refused 2 4
  | range (hmask : s.MaskPasses) {i : Nat} (h : rangeIndices.find? s.outOfRange = some i) : s.Refused 3 i
  | profile (hmask : s.MaskPasses) (hrange : rangeIndices.find? s.outOfRange = none) {i : Nat}
      (h : profileIndices.find? s.badProfile = some i) : s.Refused 4 i
  | pattern (hmask : s.MaskPasses) (hrange : rangeIndices.find? s.outOfRange = none)
      (hprofile : profileIndices.find? s.badProfile = none) {i : Nat}
      (h : patternIndices.find? s.badPattern = some i) : s.Refused 5 i
  | set (hmask : s.MaskPasses) (hrange : rangeIndices.find? s.outOfRange = none)
      (hprofile : profileIndices.find? s.badProfile = none) (hpattern : patternIndices.find? s.badPattern = none)
      {k : Nat} (h : (List.range 8).find? s.emptySet = some k) : s.Refused 6 (22 + 4 * k)

/-- Validation refuses by the first check that fails, and accepts where none does (R7). -/
theorem State.validate_cases (s : State) :
    (∃ code i, s.validate = some (code, i) ∧ s.Refused code i)
    ∨ (s.validate = none ∧ s.MaskPasses ∧ rangeIndices.find? s.outOfRange = none
      ∧ profileIndices.find? s.badProfile = none ∧ patternIndices.find? s.badPattern = none
      ∧ (List.range 8).find? s.emptySet = none) := by
  unfold State.validate
  by_cases hvalue : 15 < (s.word Idx.mask).toNat
  · exact .inl ⟨3, 4, if_pos hvalue, .mask hvalue⟩
  rw [if_neg hvalue]
  have hvalue := Nat.not_lt.1 hvalue
  by_cases hown : s.own ∉ s.expected
  · exact .inl ⟨1, 4, if_pos hown, .own hvalue hown⟩
  rw [if_neg hown]
  have hown := not_not.1 hown
  by_cases hpeers : s.expected.length < 2
  · exact .inl ⟨2, 4, if_pos hpeers, .peers hvalue hown hpeers⟩
  rw [if_neg hpeers]
  have hmask : s.MaskPasses := ⟨hvalue, hown, Nat.not_lt.1 hpeers⟩
  cases hrange : rangeIndices.find? s.outOfRange with
  | some i => exact .inl ⟨3, i, rfl, .range hmask hrange⟩
  | none =>
    cases hprofile : profileIndices.find? s.badProfile with
    | some i => exact .inl ⟨4, i, rfl, .profile hmask hrange hprofile⟩
    | none =>
      cases hpattern : patternIndices.find? s.badPattern with
      | some i => exact .inl ⟨5, i, rfl, .pattern hmask hrange hprofile hpattern⟩
      | none =>
        cases hset : (List.range 8).find? s.emptySet with
        | some k => exact .inl ⟨6, 22 + 4 * k, rfl, .set hmask hrange hprofile hpattern hset⟩
        | none => exact .inr ⟨rfl, hmask, rfl, rfl, rfl, rfl⟩

/-- An accepted store passes every check. -/
theorem State.validate_none_iff (s : State) : s.validate = none ↔
    s.MaskPasses ∧ rangeIndices.find? s.outOfRange = none ∧ profileIndices.find? s.badProfile = none
      ∧ patternIndices.find? s.badPattern = none ∧ (List.range 8).find? s.emptySet = none := by
  rcases s.validate_cases with ⟨code, i, hv, hr⟩ | ⟨hv, hpasses⟩
  · refine iff_of_false (by simp [hv]) fun ⟨hmask, hrange, hprofile, hpattern, hset⟩ => ?_
    cases hr with
    | mask h => exact absurd hmask.value (by omega)
    | own _ h => exact h hmask.own
    | peers _ _ h => exact absurd hmask.peers (by omega)
    | range _ h => exact nomatch hrange.symm.trans h
    | profile _ _ h => exact nomatch hprofile.symm.trans h
    | pattern _ _ _ h => exact nomatch hpattern.symm.trans h
    | set _ _ _ _ h => exact nomatch hset.symm.trans h
  · exact iff_of_true hv hpasses

theorem State.refused_of_validate {s : State} {code i : Nat} (h : s.validate = some (code, i)) : s.Refused code i := by
  rcases s.validate_cases with ⟨code', i', h', hr⟩ | ⟨h', -⟩
  · obtain ⟨rfl, rfl⟩ := Prod.mk.inj (Option.some.inj (h.symm.trans h'))
    exact hr
  · exact nomatch h.symm.trans h'

/-- Where no set that is named is empty, each named set weighs an expected station. -/
theorem State.sets_pass_iff (s : State) : (List.range 8).find? s.emptySet = none ↔ ∀ k, k < 8 →
    ((∃ i, 54 ≤ i ∧ i ≤ 117 ∧ (s.word i).toNat = k) ∨ ∃ i, 118 ≤ i ∧ i ≤ 133 ∧ (s.word i).toNat / 256 = k) →
    ∃ n : Station, (s.word 4).getLsbD n.val = true ∧ 0 < (s.word (22 + 4 * k + n.val)).toNat := by
  rw [List.find?_eq_none]
  simp only [List.mem_range, s.emptySet_iff, not_and, not_forall, exists_prop, Nat.pos_iff_ne_zero, ne_eq]

theorem State.range_passes_iff (s : State) : rangeIndices.find? s.outOfRange = none ↔
    ∀ i, (5 ≤ i ∧ i ≤ 53) ∨ (134 ≤ i ∧ i ≤ 148) → s.outOfRange i = false := by
  simp only [List.find?_eq_none, mem_rangeIndices, Bool.not_eq_true]

theorem State.profile_passes_iff (s : State) : profileIndices.find? s.badProfile = none ↔
    ∀ i, 54 ≤ i ∧ i ≤ 117 → (s.word i).toNat ≤ 7 := by
  simp only [List.find?_eq_none, mem_profileIndices, Bool.not_eq_true, s.badProfile_iff]

theorem State.pattern_passes_iff (s : State) : patternIndices.find? s.badPattern = none ↔
    ∀ i, 118 ≤ i ∧ i ≤ 133 → s.badPattern i = false := by
  simp only [List.find?_eq_none, mem_patternIndices, Bool.not_eq_true]

/-- The pattern entries pass where their high and low bytes do, and entry 0 is the default (R7 check 5). -/
theorem State.pattern_passes_iff_words (s : State) : patternIndices.find? s.badPattern = none ↔
    (∀ i, 118 ≤ i ∧ i ≤ 133 → (s.word i).toNat / 256 ≤ 8 ∧ (s.word i).toNat % 256 ≤ 12) ∧ s.word 118 = 0x0800 := by
  simp only [s.pattern_passes_iff, s.badPattern_false_iff]
  constructor
  · exact fun h => ⟨fun i hi => (h i hi).1, (h 118 (by decide)).2 rfl⟩
  · exact fun ⟨h, h0⟩ i hi => ⟨h i hi, fun h118 => h118 ▸ h0⟩

/-- The refusal record: the code tells the check, the index of a late check is the lowest that offends, and the checks
before have passed (R7, R9). -/
theorem State.Refused.record {s : State} {code i : Nat} (h : s.Refused code i) : 1 ≤ code ∧ code ≤ 6 ∧ i ≤ 148
    ∧ (code = 1 → i = 4 ∧ (s.word 4).getLsbD s.ctl.strap.val = false)
    ∧ (code = 2 → i = 4 ∧ s.expected.length < 2)
    ∧ (code = 3 → (i = 4 ∧ 15 < (s.word 4).toNat)
        ∨ (((5 ≤ i ∧ i ≤ 53) ∨ (134 ≤ i ∧ i ≤ 148)) ∧ s.outOfRange i = true
          ∧ ∀ j, 5 ≤ j → j < i → j ≤ 53 ∨ 134 ≤ j → s.outOfRange j = false))
    ∧ (code = 4 → 54 ≤ i ∧ i ≤ 117 ∧ 7 < (s.word i).toNat ∧ ∀ j, 54 ≤ j → j < i → (s.word j).toNat ≤ 7)
    ∧ (code = 5 → 118 ≤ i ∧ i ≤ 133 ∧ s.badPattern i = true ∧ ∀ j, 118 ≤ j → j < i → s.badPattern j = false)
    ∧ (code = 6 → ∃ k, k < 8 ∧ i = 22 + 4 * k ∧ s.emptySet k = true ∧ ∀ j, j < k → s.emptySet j = false) := by
  cases h with
  | mask h => simp [h]
  | own _ h =>
    have hbit : (s.word 4).getLsbD s.ctl.strap.val = false := (Bool.not_eq_true _).mp (mt s.mem_expected.2 h)
    simp [hbit]
  | peers _ _ h => simpa using h
  | range _ h =>
    obtain ⟨hout, hi, hbefore⟩ := find?_of_ascending rangeIndices_ascending h
    rw [mem_rangeIndices] at hi
    refine ⟨by decide, by decide, by omega, nofun, nofun, fun _ => .inr ⟨hi, hout, fun j h5 hlt hj => ?_⟩, nofun, nofun,
      nofun⟩
    exact hbefore j (mem_rangeIndices.2 (by omega)) hlt
  | profile _ _ h =>
    obtain ⟨hbad, hi, hbefore⟩ := find?_of_ascending profileIndices_ascending h
    rw [mem_profileIndices] at hi
    refine ⟨by decide, by decide, by omega, nofun, nofun, nofun, fun _ => ⟨hi.1, hi.2, ?_, fun j h54 hlt => ?_⟩, nofun,
      nofun⟩
    · simpa [State.badProfile] using hbad
    · exact (s.badProfile_iff j).1 (hbefore j (mem_profileIndices.2 (by omega)) hlt)
  | pattern _ _ _ h =>
    obtain ⟨hbad, hi, hbefore⟩ := find?_of_ascending patternIndices_ascending h
    rw [mem_patternIndices] at hi
    refine ⟨by decide, by decide, by omega, nofun, nofun, nofun, nofun,
      fun _ => ⟨hi.1, hi.2, hbad, fun j h118 hlt => ?_⟩, nofun⟩
    exact hbefore j (mem_patternIndices.2 (by omega)) hlt
  | @set _ _ _ _ k h =>
    obtain ⟨hempty, hk, hbefore⟩ := find?_of_ascending List.pairwise_lt_range h
    rw [List.mem_range] at hk
    exact ⟨by decide, by decide, by omega, nofun, nofun, nofun, nofun, nofun,
      fun _ => ⟨k, hk, rfl, hempty, fun j hj => hbefore j (List.mem_range.2 (by omega)) hj⟩⟩

/-- The checks a refusal has found passed (R7). -/
theorem State.Refused.passed {s : State} {code i : Nat} (h : s.Refused code i) :
    (code ≠ 3 ∨ i ≠ 4 → (s.word 4).toNat ≤ 15)
    ∧ (code ≠ 1 → code ≠ 3 ∨ i ≠ 4 → (s.word 4).getLsbD s.ctl.strap.val = true)
    ∧ (3 < code ∨ code = 3 ∧ i ≠ 4 → 2 ≤ s.expected.length)
    ∧ (3 < code → ∀ j, (5 ≤ j ∧ j ≤ 53) ∨ (134 ≤ j ∧ j ≤ 148) → s.outOfRange j = false)
    ∧ (4 < code → ∀ j, 54 ≤ j ∧ j ≤ 117 → (s.word j).toNat ≤ 7)
    ∧ (5 < code → ∀ j, 118 ≤ j ∧ j ≤ 133 → s.badPattern j = false) := by
  have hown (h : s.own ∈ s.expected) : (s.word 4).getLsbD s.ctl.strap.val = true := s.mem_expected.1 h
  cases h with
  | mask h => simp
  | own hvalue _ => simp [hvalue]
  | peers hvalue h _ => simp [hvalue, hown h]
  | range hmask _ => simp [hmask.value, hown hmask.own, hmask.peers]
  | profile hmask hrange _ =>
    exact ⟨fun _ => hmask.value, fun _ _ => hown hmask.own, fun _ => hmask.peers, fun _ => s.range_passes_iff.1 hrange,
      by simp, by simp⟩
  | pattern hmask hrange hprofile _ =>
    exact ⟨fun _ => hmask.value, fun _ _ => hown hmask.own, fun _ => hmask.peers, fun _ => s.range_passes_iff.1 hrange,
      fun _ => s.profile_passes_iff.1 hprofile, by simp⟩
  | set hmask hrange hprofile hpattern _ =>
    exact ⟨fun _ => hmask.value, fun _ _ => hown hmask.own, fun _ => hmask.peers, fun _ => s.range_passes_iff.1 hrange,
      fun _ => s.profile_passes_iff.1 hprofile, fun _ => s.pattern_passes_iff.1 hpattern⟩

/-- Settles O6. -/
theorem validationReportsTheFirstFailure : Obligations.ValidationReportsTheFirstFailure := by
  intro s
  refine ⟨?_, fun code i h => ?_, s.badPattern_iff, s.emptySet_iff, ?_, fun i h22 h53 => ?_, s.outOfRange_sHys,
    fun i hi => s.outOfRange_trim hi⟩
  · rw [s.validate_none_iff, s.range_passes_iff, s.profile_passes_iff, s.pattern_passes_iff_words, s.sets_pass_iff,
      and_assoc]
    constructor
    · rintro ⟨hmask, hrest⟩
      exact ⟨hmask.value, s.mem_expected.1 hmask.own, hmask.peers, hrest⟩
    · rintro ⟨hvalue, hown, hpeers, hrest⟩
      exact ⟨⟨hvalue, s.mem_expected.2 hown, hpeers⟩, hrest⟩
  · have hr := State.refused_of_validate h
    obtain ⟨h1, h2, h3, h4, h5, h6, h7, h8, h9⟩ := hr.record
    exact ⟨h1, h2, h3, h4, h5, h6, h7, h8, h9, hr.passed⟩
  · have hrows : ∀ r ∈ [(5, 1000, 20000), (6, 1, 15), (7, 0, 15), (8, 10, 250), (9, 50, 4000), (10, 20, 500), (12, 1, 8),
        (13, 1, 100), (14, 1, 500), (15, 0, 2000), (16, 1, 255), (17, 1, 255), (18, 50, 5000), (19, 10, 250),
        (20, 0, 2000), (21, 1, 250), (134, 500, 10000), (135, 500, 10000), (138, 256, 8192), (139, 40, 4000),
        (140, 0, 20000), (141, 0, 20000), (142, 1, 400), (143, 1, 800), (144, 1, 8), (145, 1, 8), (146, 20, 250),
        (147, 0, 2), (148, 20, 2000)], (r.1 ≠ 11 ∧ r.1 ≠ 136 ∧ r.1 ≠ 137)
          ∧ (paramRow r.1).lo = r.2.1 ∧ (paramRow r.1).hi = r.2.2 := by decide
    intro r hr
    obtain ⟨hne, hlo, hhi⟩ := hrows r hr
    rw [s.outOfRange_of_row hne, hlo, hhi]
  · have hrow := paramRow_weights i (by rw [List.mem_range'_1]; omega)
    rw [s.outOfRange_of_row (by omega), hrow]
    simp

end Sys2Proof.Machine
end

section
/-! PROOFS. The water-fill: its rounds, what it gives out in all, and the bounds of each share
(06_the_allocation.md, 6.5). -/

namespace Sys2Proof.Machine

/-! ## The rounds (R115 to R118) -/

theorem giveRemainder_getElem? (r : Nat) (l : List (Station × Nat)) (k : Nat) :
    (giveRemainder r l)[k]? = l[k]?.map (fun p => (p.1, p.2 + if k < r then 1 else 0)) := by
  induction l generalizing r k with
  | nil => simp [giveRemainder]
  | cons p l ih =>
    obtain ⟨n, a⟩ := p
    cases r with
    | zero => simp [giveRemainder]
    | succ r =>
      cases k with
      | zero => simp [giveRemainder]
      | succ k => simp [giveRemainder, ih]

theorem giveRemainder_length (r : Nat) (l : List (Station × Nat)) : (giveRemainder r l).length = l.length := by
  induction l generalizing r with
  | nil => simp [giveRemainder]
  | cons p l ih => cases r <;> simp [giveRemainder, ih]

/-- The members of a round that reach their capacities, and those that do not (R115). -/
def clampedOf (members : List Member) (m : Nat) : List Member :=
  members.filter (fun i => i.clamps m (members.map (fun i => i.weight)).sum)

def restOf (members : List Member) (m : Nat) : List Member :=
  members.filter (fun i => !i.clamps m (members.map (fun i => i.weight)).sum)

/-- What is left for the members not clamped (R115). -/
def leftOf (members : List Member) (m : Nat) : Nat := m - ((clampedOf members m).map (fun i => i.capacity)).sum

theorem clampedOf_perm (members : List Member) (m : Nat) :
    (clampedOf members m ++ restOf members m).Perm members :=
  List.filter_append_perm _ _

theorem restOf_length_lt {members : List Member} {m : Nat} (h : clampedOf members m ≠ []) :
    (restOf members m).length < members.length := by
  have hlength := (clampedOf_perm members m).length_eq
  have hpos := List.length_pos_iff.2 h
  rw [List.length_append] at hlength
  omega

theorem fillRounds_nil (k m : Nat) : fillRounds k [] m = ⟨[], m⟩ := by
  cases k <;> simp [fillRounds]

theorem fillRounds_last {members : List Member} {m : Nat} (hne : members ≠ []) (h : clampedOf members m = [])
    (k : Nat) : fillRounds (k + 1) members m = ⟨lastRound members m (members.map (fun i => i.weight)).sum, 0⟩ := by
  unfold clampedOf at h
  simp [fillRounds, hne, h]

theorem fillRounds_clamped {members : List Member} {m : Nat} (h : clampedOf members m ≠ []) (k : Nat) :
    fillRounds (k + 1) members m =
      let next := fillRounds k (restOf members m) (leftOf members m)
      ⟨(clampedOf members m).map (fun i => (i.station, i.capacity)) ++ next.shares, next.shortfall⟩ := by
  have hne : members ≠ [] := by
    rintro rfl
    exact h rfl
  have hempty : ¬(clampedOf members m).isEmpty = true := by rwa [List.isEmpty_iff]
  rw [fillRounds]
  dsimp only
  rw [if_neg (by rwa [List.isEmpty_iff])]
  exact if_neg hempty

/-- Rounds beyond the number of members make no difference: each round before the last takes a member out (R118). -/
theorem fillRounds_enough {k k' : Nat} {members : List Member} (h : members.length < k) (h' : members.length < k')
    (m : Nat) : fillRounds k members m = fillRounds k' members m := by
  induction k generalizing k' members m with
  | zero => omega
  | succ k ih =>
    cases k' with
    | zero => omega
    | succ k' =>
      by_cases hne : members = []
      · rw [hne, fillRounds_nil, fillRounds_nil]
      by_cases hc : clampedOf members m = []
      · rw [fillRounds_last hne hc, fillRounds_last hne hc]
      · have hlt := restOf_length_lt hc
        rw [fillRounds_clamped hc, fillRounds_clamped hc, ih (k' := k') (by omega) (by omega)]

theorem waterFill_nil (m : Nat) : waterFill [] m = ⟨[], m⟩ := fillRounds_nil _ m

theorem waterFill_last {members : List Member} {m : Nat} (hne : members ≠ []) (h : clampedOf members m = []) :
    waterFill members m = ⟨lastRound members m (members.map (fun i => i.weight)).sum, 0⟩ :=
  fillRounds_last hne h _

theorem waterFill_clamped {members : List Member} {m : Nat} (h : clampedOf members m ≠ []) :
    waterFill members m =
      let next := waterFill (restOf members m) (leftOf members m)
      ⟨(clampedOf members m).map (fun i => (i.station, i.capacity)) ++ next.shares, next.shortfall⟩ := by
  have hlt := restOf_length_lt h
  rw [waterFill, fillRounds_clamped h, waterFill, fillRounds_enough hlt (Nat.lt_succ_self _)]

/-- Settles O39: the equations of the rounds, and the last round's floors and remainder place by place. -/
theorem waterFillGoesByRounds : Obligations.WaterFillGoesByRounds := by
  intro members m w clamped rest remainder
  have hclamped : clampedOf members m = clamped := rfl
  have hrest : restOf members m = rest := by
    refine List.filter_congr fun i _ => ?_
    rw [Member.clamps, ← decide_not]
    exact decide_eq_decide.2 Nat.not_le
  refine ⟨fun h => h ▸ waterFill_nil m, fun hne hc => ?_, fun hc => ?_⟩
  · rw [waterFill_last hne (hclamped.trans hc)]
    refine ⟨rfl, ?_, fun k i hk => ?_⟩
    · rw [lastRound, giveRemainder_length, List.length_map]
    · rw [lastRound, giveRemainder_getElem?, List.getElem?_map, hk, List.map_map]
      rfl
  · rw [waterFill_clamped (members := members) (m := m) (by rwa [hclamped]), leftOf, hclamped, hrest]

/-- The water-fill by its rounds: nothing to divide among, the last round, or a round that clamps. -/
theorem waterFill_induction {P : List Member → Nat → Prop} (hnil : ∀ m, P [] m)
    (hlast : ∀ members m, members ≠ [] → clampedOf members m = [] → P members m)
    (hclamped : ∀ members m, clampedOf members m ≠ [] → P (restOf members m) (leftOf members m) → P members m)
    (members : List Member) (m : Nat) : P members m := by
  induction h : members.length using Nat.strong_induction_on generalizing members m with
  | _ n ih =>
    by_cases hne : members = []
    · exact hne ▸ hnil m
    by_cases hc : clampedOf members m = []
    · exact hlast members m hne hc
    · exact hclamped members m hc (ih _ (h ▸ restOf_length_lt hc) _ _ rfl)

/-! ## Every share is a member's, within its capacity -/

theorem mem_restOf {members : List Member} {m : Nat} {i : Member} (h : i ∈ restOf members m) : i ∈ members :=
  List.mem_of_mem_filter h

/-- A member that is not clamped keeps below its capacity, the remainder's unit included (R115, R116). -/
theorem tentative_lt_capacity {members : List Member} {m : Nat} (h : clampedOf members m = []) {i : Member}
    (hi : i ∈ members) : i.tentative m (members.map (fun i => i.weight)).sum < i.capacity := by
  have := List.filter_eq_nil_iff.1 h i hi
  simpa [Member.clamps] using this

/-- Each share is that of a member, within its capacity. -/
theorem waterFill_share_le (members : List Member) (m : Nat) :
    ∀ p ∈ (waterFill members m).shares, ∃ i ∈ members, p.1 = i.station ∧ p.2 ≤ i.capacity := by
  induction members, m using waterFill_induction with
  | hnil m => simp [waterFill_nil]
  | hlast members m hne hc =>
    rw [waterFill_last hne hc]
    intro p hp
    obtain ⟨k, hk⟩ := List.getElem?_of_mem hp
    rw [lastRound, giveRemainder_getElem?, List.getElem?_map, Option.map_map, Option.map_eq_some_iff] at hk
    obtain ⟨i, hi, rfl⟩ := hk
    have hi := List.mem_of_getElem? hi
    have hlt := tentative_lt_capacity hc hi
    refine ⟨i, hi, rfl, ?_⟩
    dsimp only [Function.comp_apply]
    split <;> omega
  | hclamped members m hc ih =>
    rw [waterFill_clamped hc]
    intro p hp
    rcases List.mem_append.1 hp with hp | hp
    · obtain ⟨i, hi, rfl⟩ := List.mem_map.1 hp
      exact ⟨i, List.mem_of_mem_filter hi, rfl, Nat.le_refl _⟩
    · obtain ⟨i, hi, h⟩ := ih p hp
      exact ⟨i, mem_restOf hi, h⟩

theorem waterFill_shortfall_le (members : List Member) (m : Nat) : (waterFill members m).shortfall ≤ m := by
  induction members, m using waterFill_induction with
  | hnil m => simp [waterFill_nil]
  | hlast members m hne hc =>
    rw [waterFill_last hne hc]
    exact Nat.zero_le m
  | hclamped members m hc ih =>
    rw [waterFill_clamped hc]
    exact ih.trans (Nat.sub_le _ _)

theorem Split.shareOf_of_mem {sp : Split} {n : Station} {P : Nat → Prop} (h0 : P 0)
    (h : ∀ p ∈ sp.shares, p.1 = n → P p.2) : P (sp.shareOf n) := by
  unfold Split.shareOf
  cases hf : sp.shares.find? (fun p => p.1 == n) with
  | none => exact h0
  | some p => exact h p (List.mem_of_find?_eq_some hf) (by simpa using List.find?_some hf)

/-! ## What is given out in all (R115, R116) -/

/-- The stations that get a share are those of the members, each once. -/
theorem waterFill_stations (members : List Member) (m : Nat) :
    ((waterFill members m).shares.map (fun p => p.1)).Perm (members.map (fun i => i.station)) := by
  induction members, m using waterFill_induction with
  | hnil m => simp [waterFill_nil]
  | hlast members m hne hc =>
    rw [waterFill_last hne hc]
    refine .of_eq (List.ext_getElem? fun k => ?_)
    simp [lastRound, giveRemainder_getElem?, Function.comp_def]
  | hclamped members m hc ih =>
    rw [waterFill_clamped hc]
    simp only [List.map_append, List.map_map]
    refine (List.Perm.append_left _ ih).trans ?_
    have hperm := (clampedOf_perm members m).map (fun i => i.station)
    rwa [List.map_append] at hperm

/-- The floors of a proportional division leave less than one unit for each member. -/
theorem floors_bounds (members : List Member) (m w : Nat) (hw : 0 < w) :
    w * (members.map (fun i => i.tentative m w)).sum ≤ m * (members.map (fun i => i.weight)).sum
    ∧ m * (members.map (fun i => i.weight)).sum
        ≤ w * (members.map (fun i => i.tentative m w)).sum + w * members.length := by
  induction members with
  | nil => simp
  | cons i members ih =>
    obtain ⟨hlow, hhigh⟩ := ih
    have hdiv := Nat.div_add_mod (m * i.weight) w
    have hmod := Nat.mod_lt (m * i.weight) hw
    have ht : i.tentative m w = m * i.weight / w := rfl
    simp only [List.map_cons, List.sum_cons, List.length_cons, Nat.mul_add, ht]
    constructor
    · omega
    · omega

theorem giveRemainder_sum (r : Nat) (l : List (Station × Nat)) (h : r ≤ l.length) :
    ((giveRemainder r l).map (fun p => p.2)).sum = (l.map (fun p => p.2)).sum + r := by
  induction l generalizing r with
  | nil => simp at h; simp [giveRemainder, h]
  | cons p l ih =>
    obtain ⟨n, a⟩ := p
    cases r with
    | zero => simp [giveRemainder]
    | succ r =>
      have hr : r ≤ l.length := by simpa using h
      simp only [giveRemainder, List.map_cons, List.sum_cons, ih r hr]
      omega

/-- The floors of a round give out at most what is divided (R115). -/
theorem floors_le (members : List Member) (m : Nat) :
    (members.map (fun i => i.tentative m (members.map (fun i => i.weight)).sum)).sum ≤ m := by
  rcases Nat.eq_zero_or_pos (members.map (fun i => i.weight)).sum with hw | hw
  · have hzero : members.map (fun i => i.tentative m 0) = members.map fun _ => 0 := by
      simp [Member.tentative]
    rw [hw, hzero]
    simp
  · obtain ⟨hlow, -⟩ := floors_bounds members m _ hw
    rw [Nat.mul_comm m] at hlow
    exact Nat.le_of_mul_le_mul_left hlow hw

/-- The capacities of the clamped members do not exceed what is divided (R115). -/
theorem clamped_capacities_le (members : List Member) (m : Nat) :
    ((clampedOf members m).map (fun i => i.capacity)).sum ≤ m := by
  have hcap : ((clampedOf members m).map (fun i => i.capacity)).sum
      ≤ ((clampedOf members m).map (fun i => i.tentative m (members.map (fun i => i.weight)).sum)).sum :=
    List.sum_le_sum fun i hi => by simpa [Member.clamps] using List.of_mem_filter hi
  have hsub := (List.filter_sublist (l := members)
    (p := fun i => i.clamps m (members.map (fun i => i.weight)).sum)).map
      (fun i => i.tentative m (members.map (fun i => i.weight)).sum)
  exact hcap.trans ((hsub.sum_le_sum fun _ _ => Nat.zero_le _).trans (floors_le members m))

/-- The last round gives out all that is divided (R116). -/
theorem lastRound_sum {members : List Member} (hne : members ≠ []) (hweight : ∀ i ∈ members, 0 < i.weight) (m : Nat) :
    ((lastRound members m (members.map (fun i => i.weight)).sum).map (fun p => p.2)).sum = m := by
  have hw : 0 < (members.map (fun i => i.weight)).sum := by
    obtain ⟨i, hi⟩ := List.exists_mem_of_ne_nil members hne
    exact (hweight i hi).trans_le (List.single_le_sum (fun _ _ => Nat.zero_le _) _ (List.mem_map_of_mem hi))
  obtain ⟨-, hhigh⟩ := floors_bounds members m _ hw
  have hle := floors_le members m
  set w := (members.map (fun i => i.weight)).sum
  have hremainder : m ≤ (members.map (fun i => i.tentative m w)).sum + members.length := by
    rw [← Nat.mul_add, Nat.mul_comm m] at hhigh
    exact Nat.le_of_mul_le_mul_left hhigh hw
  have hbase : ((members.map (fun i => (i.station, i.tentative m w))).map (fun p => p.2))
      = members.map (fun i => i.tentative m w) := by
    rw [List.map_map]
    rfl
  rw [lastRound, giveRemainder_sum, hbase]
  · omega
  · rw [hbase, List.length_map]
    omega

/-- The shares and the shortfall make up what is divided. -/
theorem waterFill_total {members : List Member} (hweight : ∀ i ∈ members, 0 < i.weight) (m : Nat) :
    ((waterFill members m).shares.map (fun p => p.2)).sum + (waterFill members m).shortfall = m := by
  induction members, m using waterFill_induction with
  | hnil m => simp [waterFill_nil]
  | hlast members m hne hc =>
    rw [waterFill_last hne hc, lastRound_sum hne hweight]
    rfl
  | hclamped members m hc ih =>
    have hrest := ih fun i hi => hweight i (mem_restOf hi)
    have hcap := clamped_capacities_le members m
    rw [waterFill_clamped hc]
    simp only [List.map_append, List.map_map, List.sum_append, Function.comp_def]
    unfold leftOf at hrest ⊢
    omega

/-! ## The shares over a set of stations -/

/-- Over stations that take in all the shares' own, the shares add up to their total. -/
theorem sum_shareOf {l : List (Station × Nat)} {stations : List Station} (hl : (l.map (fun p => p.1)).Nodup)
    (hs : stations.Nodup) (hsub : ∀ p ∈ l, p.1 ∈ stations) (shortfall : Nat) :
    (stations.map (Split.mk l shortfall).shareOf).sum = (l.map (fun p => p.2)).sum := by
  induction l with
  | nil =>
    show (stations.map fun _ => 0).sum = 0
    simp
  | cons p l ih =>
    obtain ⟨n, a⟩ := p
    rw [List.map_cons, List.nodup_cons] at hl
    have htail := ih hl.2 fun p hp => hsub p (List.mem_cons_of_mem _ hp)
    have hnone : (Split.mk l shortfall).shareOf n = 0 := by
      refine Split.shareOf_of_mem (P := (· = 0)) rfl fun p hp h => ?_
      exact absurd (h ▸ List.mem_map_of_mem (f := fun p => p.1) hp) hl.1
    have hcons : (Split.mk ((n, a) :: l) shortfall).shareOf
        = fun k => (Split.mk l shortfall).shareOf k + if k = n then a else 0 := by
      funext k
      by_cases hk : k = n
      · subst hk
        rw [hnone]
        simp [Split.shareOf]
      · have : (n == k) = false := by simpa using Ne.symm hk
        simp [Split.shareOf, this, hk]
    have hone : (stations.map fun k => if k = n then a else 0).sum = a := by
      rw [← List.sum_toFinset _ hs, Finset.sum_ite_eq', if_pos]
      exact List.mem_toFinset.2 (hsub (n, a) List.mem_cons_self)
    rw [hcons, List.sum_map_add, htail, hone, List.map_cons, List.sum_cons, Nat.add_comm]

end Sys2Proof.Machine
end

section
/-! PROOFS. The Allocation Engine: the choice, the demand, the split (05_split_profiles.md, 06_the_allocation.md). -/

namespace Sys2Proof.Machine

/-! ## Station sets as masks (R91, R201) -/

theorem allStations_sorted : allStations.Pairwise (fun a b => a < b) := by decide

theorem maskOf_filter (p : Station → Bool) :
    maskOf (allStations.filter p) = (p 0).toNat + 2 * (p 1).toNat + 4 * (p 2).toNat + 8 * (p 3).toNat := by
  unfold allStations
  cases h0 : p 0 <;> cases h1 : p 1 <;> cases h2 : p 2 <;> cases h3 : p 3 <;> simp [h0, h1, h2, h3, maskOf]

/-- A mask of a set of the four stations has their bits, and is below 16. -/
theorem maskOf_filter_testBit (p : Station → Bool) (k : Station) :
    ((maskOf (allStations.filter p)).testBit k.val = true ↔ p k = true) ∧ maskOf (allStations.filter p) < 16 := by
  have hbits : ∀ a b c d : Bool, let m := a.toNat + 2 * b.toNat + 4 * c.toNat + 8 * d.toNat
      m.testBit 0 = a ∧ m.testBit 1 = b ∧ m.testBit 2 = c ∧ m.testBit 3 = d ∧ m < 16 := by decide
  obtain ⟨h0, h1, h2, h3, hlt⟩ := hbits (p 0) (p 1) (p 2) (p 3)
  rw [maskOf_filter]
  refine ⟨?_, hlt⟩
  fin_cases k
  · exact iff_of_eq (congrArg (· = true) h0)
  · exact iff_of_eq (congrArg (· = true) h1)
  · exact iff_of_eq (congrArg (· = true) h2)
  · exact iff_of_eq (congrArg (· = true) h3)

/-- The same of any list that names each station once. -/
theorem maskOf_testBit {l : List Station} (hl : l.Nodup) (k : Station) :
    ((maskOf l).testBit k.val = true ↔ k ∈ l) ∧ maskOf l < 16 := by
  have hperm : l.Perm (allStations.filter (fun n => decide (n ∈ l))) :=
    (List.perm_ext_iff_of_nodup hl (List.Nodup.filter _ allStations_nodup)).2 fun n => by simp [mem_allStations]
  have hmask : maskOf l = maskOf (allStations.filter (fun n => decide (n ∈ l))) := (hperm.map _).sum_eq
  rw [hmask]
  simpa using maskOf_filter_testBit (fun n => decide (n ∈ l)) k

/-! ## The greatest and the least of a list that starts with one element -/

theorem foldl_max_spec {α : Type} [LinearOrder α] (a : α) (l : List α) :
    a ≤ l.foldl max a ∧ (∀ x ∈ l, x ≤ l.foldl max a) ∧ (l.foldl max a = a ∨ l.foldl max a ∈ l) := by
  induction l generalizing a with
  | nil => simp
  | cons b l ih =>
    obtain ⟨hle, hall, hattained⟩ := ih (max a b)
    rw [List.foldl_cons]
    refine ⟨(le_max_left a b).trans hle, ?_, ?_⟩
    · intro x hx
      rcases List.mem_cons.1 hx with rfl | hx
      · exact (le_max_right a x).trans hle
      · exact hall x hx
    · rcases hattained with h | h
      · rcases max_choice a b with hm | hm
        · exact .inl (h.trans hm)
        · exact .inr (List.mem_cons.2 (.inl (h.trans hm)))
      · exact .inr (List.mem_cons_of_mem _ h)

theorem foldl_min_spec {α : Type} [LinearOrder α] (a : α) (l : List α) :
    l.foldl min a ≤ a ∧ (∀ x ∈ l, l.foldl min a ≤ x) ∧ (l.foldl min a = a ∨ l.foldl min a ∈ l) :=
  foldl_max_spec (α := αᵒᵈ) a l

/-! ## The view, as the statements spell it -/

/-- A record of a participant peer, FRESH or GRACE (R51). -/
def PeriodView.Peer (v : PeriodView) (r : PeerRecord) : Prop :=
  ∃ e ∈ v.entries, (e.cls = .fresh ∨ e.cls = .grace) ∧ e.record = some r

theorem PeriodView.peer_iff (v : PeriodView) (r : PeerRecord) : v.Peer r ↔ ∃ p ∈ v.peers, p.2 = r := by
  simp only [PeriodView.Peer, Prod.exists, exists_eq_right, PeriodView.mem_peers, AgeClass.participates_iff]
  constructor
  · rintro ⟨e, he, hcls, hr⟩
    exact ⟨e.station, e, he, rfl, hcls, hr⟩
  · rintro ⟨n, e, he, -, hcls, hr⟩
    exact ⟨e, he, hcls, hr⟩

/-- What holds of every field of the peers' records, and of one of them. -/
theorem PeriodView.forall_peers {α : Type} (v : PeriodView) (field : PeerRecord → α) (P : α → Prop) :
    (∀ x ∈ v.peers.map (fun p => field p.2), P x) ↔ ∀ r, v.Peer r → P (field r) := by
  simp only [List.mem_map, forall_exists_index, and_imp, forall_apply_eq_imp_iff₂, v.peer_iff]

theorem PeriodView.mem_peers_map {α : Type} (v : PeriodView) (field : PeerRecord → α) (x : α) :
    x ∈ v.peers.map (fun p => field p.2) ↔ ∃ r, v.Peer r ∧ x = field r := by
  simp only [List.mem_map, v.peer_iff]
  constructor
  · rintro ⟨p, hp, rfl⟩
    exact ⟨p.2, ⟨p, hp, rfl⟩, rfl⟩
  · rintro ⟨r, ⟨p, hp, rfl⟩, rfl⟩
    exact ⟨p, hp, rfl⟩

theorem State.param_tDem (s : State) : s.param Idx.tDem = max 20 (min 250 (s.word 146).toNat) := s.param_eq rfl rfl

theorem State.param_dMax (s : State) : s.param Idx.dMax = max 1000 (min 20000 (s.word 5).toNat) := s.param_eq rfl rfl

/-- The own demand: 0 once its age is past T_dem (R107). -/
theorem State.ownDemand_eq (s : State) : s.ownDemand
    = if max 20 (min 250 (s.word 146).toNat) < s.pt.view.demandAge then 0 else s.pt.view.demand := by
  simp only [State.ownDemand, State.demandStale, decide_eq_true_eq, s.param_tDem]

/-! ## The slip pattern (R91) -/

theorem State.slipPattern_lt (s : State) : s.slipPattern < 16 := (maskOf_filter_testBit _ 0).2

theorem State.slipPattern_testBit (s : State) (n : Station) : s.slipPattern.testBit n.val = true ↔
    if n = s.ctl.strap then s.slu.flag = true
    else ∃ e ∈ s.pt.view.entries, e.station = n ∧ (e.cls = .fresh ∨ e.cls = .grace)
      ∧ ∃ r, e.record = some r ∧ r.frame.slipFlag = true := by
  have hbit := (maskOf_filter_testBit (fun n =>
    if n = s.own then s.slu.flag else s.pt.view.peers.any (fun p => p.1 == n && p.2.frame.slipFlag)) n).1
  rw [State.slipPattern, State.slippingStations, hbit]
  by_cases hn : n = s.ctl.strap
  · rw [if_pos hn, if_pos (show n = s.own from hn)]
  · rw [if_neg hn, if_neg (show ¬n = s.own from hn)]
    simp only [List.any_eq_true, Bool.and_eq_true, beq_iff_eq, Prod.exists, PeriodView.mem_peers,
      AgeClass.participates_iff]
    constructor
    · rintro ⟨_, r, ⟨e, he, rfl, hcls, hr⟩, rfl, hflag⟩
      exact ⟨e, he, rfl, hcls, r, hr, hflag⟩
    · rintro ⟨e, he, rfl, hcls, r, hr, hflag⟩
      exact ⟨e.station, r, ⟨e, he, rfl, hcls, hr⟩, rfl, hflag⟩

theorem exec_allocationComputation {s : State} (ha : s.active = true) (hs : s.stage = .hold) :
    exec .allocationComputation s = .next s.allocate :=
  onPublication_of_awaited ha hs _

/-- Settles O36. -/
theorem allocationOutsideRun : Obligations.AllocationOutsideRun := by
  intro s ha hs hrun
  refine ⟨s.slipPattern, s.slipPattern_lt, s.slipPattern_testBit, ?_⟩
  rw [exec_allocationComputation ha hs, State.allocate, if_neg hrun]
  rfl

/-! ## The choice and the demand (R89 to R96, R107 to R109) -/

/-- The computation in RUN: the results, the two marks, the echoes that become Due (R106, R107, R117, R146). -/
theorem State.allocate_of_run {s : State} (h : s.ctl.state = .run) : s.allocate = { s with
    ale := s.computeShares, stage := .share
    hu := { s.hu with flags := s.hu.flags ||| (if s.demandStale then 0x0040#16 else 0)
      ||| (if 0 < s.computeShares.shortfall then 0x0010#16 else 0) }
    sbi := { s.sbi with latch := { s.sbi.latch with
      warning := s.sbi.latch.warning || decide (0 < s.computeShares.shortfall) } }
    hou := { s.hou with echoDue := s.hou.echoDue.map (fun e => e.serve s.pt.view) } } := by
  have hzero (x : BitVec 16) : x ||| 0 = x := BitVec.or_zero
  have htrue (l : HealthClasses) : { l with warning := l.warning || true } = { l with warning := true } := by
    rw [Bool.or_true]
  have hfalse (l : HealthClasses) : { l with warning := l.warning || false } = l := by
    rw [Bool.or_false]
  rw [State.allocate, if_pos h]
  dsimp only
  by_cases hstale : s.demandStale = true <;> by_cases hshort : 0 < s.computeShares.shortfall
  all_goals
    simp only [hstale, hshort, if_true, if_false, decide_true, decide_false, State.warnIf_true, State.warnIf_false, htrue,
      hfalse, hzero, Bool.false_eq_true]
    rfl

/-- The common demand of a disagreement: the smallest magnitude where all have one sign, 0 otherwise (R108). -/
theorem commonDemand_spec (own : Int) (others : List Int) :
    (0 < own → (∀ d ∈ others, 0 < d) → commonDemand own others ≤ own ∧ (∀ d ∈ others, commonDemand own others ≤ d)
      ∧ (commonDemand own others = own ∨ commonDemand own others ∈ others))
    ∧ (own < 0 → (∀ d ∈ others, d < 0) → own ≤ commonDemand own others ∧ (∀ d ∈ others, d ≤ commonDemand own others)
      ∧ (commonDemand own others = own ∨ commonDemand own others ∈ others))
    ∧ (¬(0 < own ∧ ∀ d ∈ others, 0 < d) → ¬(own < 0 ∧ ∀ d ∈ others, d < 0) → commonDemand own others = 0) := by
  unfold commonDemand
  simp only [List.all_eq_true, decide_eq_true_eq]
  refine ⟨fun ho hd => ?_, fun ho hd => ?_, fun hpos hneg => ?_⟩
  · rw [if_pos ⟨ho, hd⟩]
    exact foldl_min_spec own others
  · rw [if_neg (fun h => absurd h.1 (by omega)), if_pos ⟨ho, hd⟩]
    exact foldl_max_spec own others
  · rw [if_neg hpos, if_neg hneg]

theorem State.usedDemand_of_agreement {s : State} (h : s.pt.view.disagreement = false) : s.usedDemand = s.ownDemand := by
  simp [State.usedDemand, h]

theorem State.usedDemand_of_disagreement {s : State} (h : s.pt.view.disagreement = true) :
    s.usedDemand = commonDemand s.ownDemand (s.pt.view.peers.map (fun p => p.2.frame.demand)) := by
  simp [State.usedDemand, h]

/-- In a disagreement the used demand is the smallest of one sign, with the own one and the peers' (R75, R108). -/
theorem State.usedDemand_spec {s : State} (h : s.pt.view.disagreement = true) :
    (0 < s.ownDemand → (∀ r, s.pt.view.Peer r → 0 < r.frame.demand) → s.usedDemand ≤ s.ownDemand
      ∧ (∀ r, s.pt.view.Peer r → s.usedDemand ≤ r.frame.demand)
      ∧ (s.usedDemand = s.ownDemand ∨ ∃ r, s.pt.view.Peer r ∧ s.usedDemand = r.frame.demand))
    ∧ (s.ownDemand < 0 → (∀ r, s.pt.view.Peer r → r.frame.demand < 0) → s.ownDemand ≤ s.usedDemand
      ∧ (∀ r, s.pt.view.Peer r → r.frame.demand ≤ s.usedDemand)
      ∧ (s.usedDemand = s.ownDemand ∨ ∃ r, s.pt.view.Peer r ∧ s.usedDemand = r.frame.demand))
    ∧ (¬(0 < s.ownDemand ∧ ∀ r, s.pt.view.Peer r → 0 < r.frame.demand) →
      ¬(s.ownDemand < 0 ∧ ∀ r, s.pt.view.Peer r → r.frame.demand < 0) → s.usedDemand = 0) := by
  have hspec := commonDemand_spec s.ownDemand (s.pt.view.peers.map (fun p => p.2.frame.demand))
  rw [← State.usedDemand_of_disagreement h, s.pt.view.forall_peers (fun r => r.frame.demand) (0 < ·),
    s.pt.view.forall_peers (fun r => r.frame.demand) (· < 0), s.pt.view.forall_peers (fun r => r.frame.demand) (s.usedDemand ≤ ·),
    s.pt.view.forall_peers (fun r => r.frame.demand) (· ≤ s.usedDemand),
    s.pt.view.mem_peers_map (fun r => r.frame.demand)] at hspec
  exact hspec

theorem Sign.ofInt_eq_positive (i : Int) : Sign.ofInt i = .positive ↔ 0 < i := by
  unfold Sign.ofInt
  split
  · simp; omega
  · split <;> simp <;> omega

theorem Sign.ofInt_eq_negative (i : Int) : Sign.ofInt i = .negative ↔ i < 0 := by
  unfold Sign.ofInt
  split
  · simpa
  · split <;> simp <;> omega

/-- The speed band of the greatest speed among the participants (R89). -/
theorem State.speedBand_spec (s : State) : ∃ vMax, s.wsu.sample.filtered ≤ vMax
    ∧ (∀ r, s.pt.view.Peer r → r.frame.axleSpeed ≤ vMax)
    ∧ (vMax = s.wsu.sample.filtered ∨ ∃ r, s.pt.view.Peer r ∧ vMax = r.frame.axleSpeed)
    ∧ s.speedBand = min 15 (vMax / 128) := by
  have hspec := foldl_max_spec s.wsu.sample.filtered (s.pt.view.peers.map (fun p => p.2.frame.axleSpeed))
  rw [s.pt.view.forall_peers (fun r => r.frame.axleSpeed), s.pt.view.mem_peers_map (fun r => r.frame.axleSpeed)] at hspec
  exact ⟨_, hspec.1, hspec.2.1, hspec.2.2, rfl⟩

/-- The selection in RUN (R92 to R96). -/
theorem State.choose_basis (s : State) : s.choose.basis = (if s.pt.view.mismatch = true then .fallback
    else if s.pt.view.isolated = true then .isolated else .normal) ∧ s.choose.pattern = s.slipPattern
    ∧ (s.choose.basis = .fallback → s.choose.band = s.ale.selection.band ∧ s.choose.code = 8 ∧ s.choose.trim = 0)
    ∧ (s.choose.basis ≠ .fallback → s.choose.band = s.speedBand ∧ s.choose.code = s.chooseSet
      ∧ s.choose.trim = s.patternTrim s.slipPattern) := by
  unfold State.choose State.chooseBasis
  cases hm : s.pt.view.mismatch <;> cases hi : s.pt.view.isolated <;> simp

theorem State.demandZero_eq (s : State) : s.demandZero = max (-((max 1000 (min 20000 (s.word 5).toNat) : Nat) : Int))
    (min ((max 1000 (min 20000 (s.word 5).toNat) : Nat) : Int) s.usedDemand) := by
  rw [State.demandZero, holdInt, s.param_dMax]

/-- Settles O37. -/
theorem allocationChoosesAndFormsTheDemand : Obligations.AllocationChoosesAndFormsTheDemand := by
  intro s ha hs hrun v stale own peer dMax
  have hown : s.ownDemand = own := s.ownDemand_eq
  have hdMax : 1000 ≤ dMax := by
    show (1000 : Int) ≤ ((max 1000 (min 20000 (s.word 5).toNat) : Nat) : Int)
    omega
  have hzero : s.demandZero = max (-dMax) (min dMax s.usedDemand) := s.demandZero_eq
  obtain ⟨hbasis, hpattern, hfallback, hother⟩ := s.choose_basis
  refine ⟨s.allocate, s.usedDemand, exec_allocationComputation ha hs, ?_⟩
  rw [State.allocate_of_run hrun]
  refine ⟨⟨hbasis, ?_, fun n => ?_, hfallback, fun hb => ?_, fun hd => ?_, fun hd => ?_, ?_⟩, ?_, ?_, rfl, rfl, rfl, ?_⟩
  · show s.choose.pattern < 16
    rw [hpattern]
    exact s.slipPattern_lt
  · show s.choose.pattern.testBit n.val = true ↔ _
    rw [hpattern]
    exact s.slipPattern_testBit n
  · obtain ⟨hband, hcode, htrim⟩ := hother hb
    refine ⟨hband ▸ s.speedBand_spec, ?_, ?_⟩
    · show s.choose.trim = (s.word (118 + s.choose.pattern)).toNat % 256
      rw [htrim, hpattern]
      rfl
    · show s.choose.code = if (s.word (118 + s.choose.pattern)).toNat / 256 ≤ 7 then (s.word (118 + s.choose.pattern)).toNat / 256
        else (s.word (54 + 16 * v.mode.code + s.choose.band)).toNat
      rw [hcode, hpattern, hband]
      simp only [State.chooseSet, State.patternOverride, State.profileEntry]
      rfl
  · exact (State.usedDemand_of_agreement hd).trans hown
  · rw [← hown]
    exact State.usedDemand_spec hd
  · show trimDemand s.demandZero s.choose.trim = _
    rw [trimDemand, hzero]
    rfl
  · show Sign.ofInt s.demandZero = .positive ↔ _
    rw [Sign.ofInt_eq_positive, hzero]
    omega
  · show Sign.ofInt s.demandZero = .negative ↔ _
    rw [Sign.ofInt_eq_negative, hzero]
    omega
  · have hstale : s.demandStale = decide stale := by simp only [State.demandStale, s.param_tDem, stale, v]
    simp only [hstale, decide_eq_true_eq]
    rfl

/-! ## The split (R110 to R122) -/

theorem ShareFrame.capacity_eq (f : ShareFrame) (g : Sign) : f.capacity g
    = if g = .positive then f.driveCapacity else if g = .negative then f.regenCapacity else 0 := by
  cases g <;> rfl

theorem State.activeSet_eq (s : State) (code : Nat) (g : Sign) (own : Nat) : s.activeSet code g own
    = (s.pt.view.participants.filter (fun n => decide (0 < s.weightBy code n ∧ 0 < s.capacityOf g own n))).map
      (fun n => ⟨n, s.weightBy code n, s.capacityOf g own n⟩) := by
  rw [State.activeSet, List.filter_map]
  congr 1
  exact List.filter_congr fun n _ => (Bool.decide_and _ _).symm

theorem State.mem_activeSet {s : State} {code : Nat} {g : Sign} {own : Nat} {i : Member} : i ∈ s.activeSet code g own ↔
    i.station ∈ s.pt.view.participants ∧ i.weight = s.weightBy code i.station
      ∧ i.capacity = s.capacityOf g own i.station ∧ 0 < i.weight ∧ 0 < i.capacity := by
  obtain ⟨n, w, a⟩ := i
  simp only [State.activeSet_eq, List.mem_map, List.mem_filter, decide_eq_true_eq, Member.mk.injEq]
  constructor
  · rintro ⟨_, ⟨hn, hw, ha⟩, rfl, rfl, rfl⟩
    exact ⟨hn, rfl, rfl, hw, ha⟩
  · rintro ⟨hn, rfl, rfl, hw, ha⟩
    exact ⟨n, ⟨hn, hw, ha⟩, rfl, rfl, rfl⟩

/-- A share of a split lies within its station's capacity. -/
theorem State.split_shareOf_le (s : State) (code : Nat) (g : Sign) (d own : Nat) (n : Station) :
    ((s.split code g d own).shareOf n) ≤ s.capacityOf g own n := by
  refine Split.shareOf_of_mem (P := (· ≤ s.capacityOf g own n)) (Nat.zero_le _) ?_
  rintro p hp rfl
  unfold State.split at hp
  split at hp
  · exact absurd hp List.not_mem_nil
  · obtain ⟨i, hi, hpi, hle⟩ := waterFill_share_le _ _ p hp
    obtain ⟨-, -, hcap, -, -⟩ := State.mem_activeSet.1 hi
    rw [hpi, ← hcap]
    exact hle

theorem State.split_shareOf_of_weightless {s : State} {code : Nat} {n : Station} (h : s.weightBy code n = 0) (g : Sign)
    (d own : Nat) : (s.split code g d own).shareOf n = 0 := by
  refine Split.shareOf_of_mem (P := (· = 0)) rfl ?_
  rintro p hp rfl
  unfold State.split at hp
  split at hp
  · exact absurd hp List.not_mem_nil
  · obtain ⟨i, hi, hpi, -⟩ := waterFill_share_le _ _ p hp
    obtain ⟨-, hw, -, hpos, -⟩ := State.mem_activeSet.1 hi
    rw [hpi] at h
    omega

/-- The reserves of peers of the expected set never exceed the demand (R113, R114). -/
theorem State.reserves_le {s : State} {code : Nat} (g : Sign) (d : Nat) (hnodup : s.pt.view.reserved.Nodup)
    (hsub : s.pt.view.reserved ⊆ s.expected) : s.reserves code g d ≤ d := by
  have hweights : (s.pt.view.reserved.map (s.weightBy code)).sum ≤ s.expectedWeight code := by
    obtain ⟨l, hperm, hl⟩ := List.subperm_of_subset hnodup hsub
    rw [← (hperm.map (s.weightBy code)).sum_eq]
    exact (hl.map _).sum_le_sum fun _ _ => Nat.zero_le _
  have hfloors : ∀ l : List Station, s.expectedWeight code * (l.map (s.reserveOf code g d)).sum
      ≤ d * (l.map (s.weightBy code)).sum := by
    intro l
    induction l with
    | nil => simp
    | cons n l ih =>
      have hfirst : s.expectedWeight code * s.reserveOf code g d n ≤ d * s.weightBy code n :=
        (Nat.mul_le_mul_left _ (min_le_left _ _)).trans (Nat.mul_div_le _ _)
      simp only [List.map_cons, List.sum_cons, Nat.mul_add]
      omega
  rcases Nat.eq_zero_or_pos (s.expectedWeight code) with hw | hw
  · have hzero : s.reserveOf code g d = fun _ => 0 := funext fun n => by simp [State.reserveOf, hw]
    simp [State.reserves, hzero]
  · refine Nat.le_of_mul_le_mul_left ?_ hw
    calc s.expectedWeight code * s.reserves code g d ≤ d * (s.pt.view.reserved.map (s.weightBy code)).sum := hfloors _
      _ ≤ d * s.expectedWeight code := Nat.mul_le_mul_left _ hweights
      _ = s.expectedWeight code * d := Nat.mul_comm _ _

/-- Shares, reserves and shortfall make up the demand (R119). -/
theorem State.split_total {s : State} (code : Nat) (g : Sign) (d own : Nat) (hnodup : s.pt.view.participants.Nodup)
    (hreserves : s.reserves code g d ≤ d) :
    (s.pt.view.participants.map (s.split code g d own).shareOf).sum + s.reserves code g d
      + (s.split code g d own).shortfall = d := by
  unfold State.split
  split_ifs with hd
  · have hzero : s.reserves code g d = 0 := by omega
    have hshares : (s.pt.view.participants.map (Split.mk [] 0).shareOf).sum = 0 := by
      show (s.pt.view.participants.map fun _ => 0).sum = 0
      simp
    rw [hshares, hzero, hd]
    rfl
  · have hstations := waterFill_stations (s.activeSet code g own) (d - s.reserves code g d)
    have hactive : ((s.activeSet code g own).map (fun i => i.station)).Nodup := by
      rw [s.activeSet_eq, List.map_map]
      exact (hnodup.filter _).map fun _ _ h => h
    have hshares := sum_shareOf (hstations.nodup_iff.2 hactive) hnodup
      (fun p hp => by
        obtain ⟨i, hi, hpi, -⟩ := waterFill_share_le _ _ p hp
        exact hpi ▸ (State.mem_activeSet.1 hi).1)
      (waterFill (s.activeSet code g own) (d - s.reserves code g d)).shortfall
    have hweight {i : Member} (hi : i ∈ s.activeSet code g own) : 0 < i.weight := by
      obtain ⟨-, -, -, hweight, -⟩ := State.mem_activeSet.1 hi
      exact hweight
    have htotal := waterFill_total (fun i hi => hweight hi) (d - s.reserves code g d)
      (members := s.activeSet code g own)
    have hshares' : (s.pt.view.participants.map (waterFill (s.activeSet code g own) (d - s.reserves code g d)).shareOf).sum
      = _ := hshares
    omega

/-- The free share is formed where a hold level is published and the demand has a sign (R112, R121). -/
theorem State.freeShare_eq (s : State) (code : Nat) (g : Sign) (d : Nat) : s.freeShare code g d
    = if g = .zero then none
      else s.hou.published.map (fun l => g.apply ((s.split code g d (min l s.slu.tl)).shareOf s.own)) := by
  unfold State.freeShare
  cases s.hou.published <;> cases g <;> rfl

theorem State.computeShares_free_none_iff (s : State) : s.computeShares.aFree = none ↔
    s.hou.published = none ∨ s.computeShares.sign = .zero := by
  show s.freeShare _ (Sign.ofInt s.demandZero) _ = none ↔ _ ∨ Sign.ofInt s.demandZero = .zero
  rw [s.freeShare_eq]
  by_cases hg : Sign.ofInt s.demandZero = .zero <;> simp [hg]

/-- The stations reserved in the view are expected ones (R48, R53). -/
theorem State.viewInv.reserved_subset {s : State} (h : s.viewInv) (hrun : s.ctl.state = .run) :
    s.pt.view.reserved ⊆ s.expected := by
  obtain ⟨hstations, -, hreserved⟩ := h
  rw [hrun, if_neg (by decide)] at hstations
  intro n hn
  rw [hreserved, mem_reservedOf] at hn
  obtain ⟨e, he, rfl, -⟩ := hn
  have hpeer : e.station ∈ s.expectedPeers := hstations ▸ List.mem_map_of_mem he
  exact List.mem_of_mem_filter hpeer

/-- Settles O38. -/
theorem splitConservesTheDemand : Obligations.SplitConservesTheDemand := by
  intro s ha hs hrun hview
  have hsub := hview.reserved_subset hrun
  obtain ⟨-, hparticipants, hreserved⟩ := hview
  rw [hrun, if_neg (by decide)] at hparticipants
  refine ⟨s.allocate, (s.split s.choose.code (Sign.ofInt s.demandZero) (trimDemand s.demandZero s.choose.trim).natAbs
    (s.ownCapacity (Sign.ofInt s.demandZero))).shareOf, exec_allocationComputation ha hs, ?_⟩
  rw [State.allocate_of_run hrun]
  intro v g d weight announced ownLimit capacity reserve sharesOf shareIn first
  have hannounced (n : Station) : announced n = ((v.recordOf n).map (fun r => r.frame.capacity g)).getD 0 := by
    simp only [announced, ShareFrame.capacity_eq]
  have hcapacity (own : Nat) : capacity own = s.capacityOf g own := funext fun n => by
    simp only [capacity, State.capacityOf, hannounced]
    rfl
  have hreserve : reserve = s.reserveOf s.choose.code g d := funext fun n => by
    simp only [reserve, State.reserveOf, hannounced]
    rfl
  have hfirst : first = s.ownCapacity g := by
    simp only [first, ownLimit, State.ownCapacity]
    cases g <;> rfl
  have hsplit (hd : 0 < d) (own : Nat) : s.split s.choose.code g d own = sharesOf own := by
    simp only [sharesOf, State.split, if_neg hd.ne', State.activeSet_eq, hcapacity, hreserve]
    rfl
  have hnone (hd : d = 0) (own : Nat) : s.split s.choose.code g d own = ⟨[], 0⟩ := if_pos hd
  have hshareIn (x : Split) (n : Station) : shareIn x n = x.shareOf n := rfl
  have hfree (l : Nat) (hl : s.hou.published = some l) (hg : g ≠ .zero) : s.computeShares.aFree
      = some (g.apply ((s.split s.choose.code g d (min l s.slu.tl)).shareOf s.own)) := by
    show s.freeShare s.choose.code g d = _
    rw [s.freeShare_eq, if_neg hg, hl]
    rfl
  have hreserves : s.reserves s.choose.code g d ≤ d :=
    s.reserves_le g d (hreserved ▸ reservedOf_nodup _) hsub
  refine ⟨?_, fun n _ => ?_, fun n hw => State.split_shareOf_of_weightless hw _ _ _, rfl,
    hparticipants ▸ allStations_sorted.filter _, fun hd => ?_, fun hd => ?_, s.computeShares_free_none_iff,
    fun l hl hg hd => ?_, fun l hl hg hd => ?_, fun l f hl hf => ?_⟩
  · have htotal := State.split_total s.choose.code g d (s.ownCapacity g) (hparticipants ▸ participantsOf_nodup _ _) hreserves
    rw [hreserve]
    exact htotal
  · rw [hfirst, hcapacity]
    exact s.split_shareOf_le _ _ _ _ _
  · rw [hfirst, ← hsplit hd]
    exact ⟨fun n => rfl, rfl⟩
  · have hempty := hnone hd (s.ownCapacity g)
    exact ⟨fun n => congrArg (Split.shareOf · n) hempty, congrArg Split.shortfall hempty⟩
  · rw [hshareIn, ← hsplit hd]
    exact hfree l hl hg
  · refine (hfree l hl hg).trans ?_
    rw [hnone hd]
    cases g <;> rfl
  · have hg : g ≠ .zero := fun hg => by
      rw [(s.computeShares_free_none_iff).2 (.inr hg)] at hf
      exact absurd hf (by simp)
    rw [hfree l hl hg, Option.some.injEq] at hf
    have hle := s.split_shareOf_le s.choose.code g d (min l s.slu.tl) s.own
    rw [State.capacityOf, if_pos rfl] at hle
    exact hf ▸ (Sign.apply_natAbs_le g _).trans hle

end Sys2Proof.Machine
end

section
/-! PROOFS. The share frame's layout, its check code and its levels on the bus (02_the_share_bus.md 2.1 and 2.4,
11_formats.md 11.1, 11.3 and 11.4). -/

namespace Sys2Proof.Machine

/-! ## Codes -/

theorem frameStateOfCode_eq_some {n : Nat} {st : LifeState} :
    frameStateOfCode n = some st ↔ st ≠ .config ∧ st.code = n := by
  constructor
  · unfold frameStateOfCode
    split <;> simp <;> rintro rfl <;> decide
  · rintro ⟨hne, rfl⟩
    cases st
    · exact absurd rfl hne
    all_goals rfl

theorem basisOfCode_eq_some {n : Nat} {b : Basis} : basisOfCode n = some b ↔ b.code = n := by
  constructor
  · unfold basisOfCode
    split <;> simp <;> rintro rfl <;> rfl
  · rintro rfl
    cases b <;> rfl

theorem modeOfCode_eq_some {n : Nat} {m : Mode} : modeOfCode n = some m ↔ m.code = n := by
  constructor
  · unfold modeOfCode
    split <;> simp <;> rintro rfl <;> rfl
  · rintro rfl
    cases m <;> rfl

theorem LifeState.code_lt (st : LifeState) : st.code < 5 := by cases st <;> decide
theorem Basis.code_lt (b : Basis) : b.code < 3 := by cases b <;> decide
theorem Interval.code_lt (i : Interval) : i.code < 2 := by cases i <;> decide
theorem Mode.code_lt (m : Mode) : m.code < 4 := by cases m <;> decide
theorem HealthClasses.code_lt (h : HealthClasses) : h.code < 4 := by
  obtain ⟨e, w⟩ := h
  cases e <;> cases w <;> decide

theorem Interval.eq_of_code {i : Interval} {n : Nat} (h : i.code = n % 2) :
    i = if n % 2 = 1 then .sixteen else .one := by
  cases i
  · rw [if_neg (by rw [← h]; decide)]
  · rw [if_pos (by rw [← h]; rfl)]

theorem Interval.code_ite (n : Nat) : (if n % 2 = 1 then Interval.sixteen else .one).code = n % 2 := by
  split <;> simp only [Interval.code] <;> omega

theorem HealthClasses.code_of_bits (n : Nat) :
    (HealthClasses.mk (decide (n % 2 = 1)) (decide (n / 2 % 2 = 1))).code = n % 4 := by
  unfold HealthClasses.code
  by_cases h0 : n % 2 = 1 <;> by_cases h1 : n / 2 % 2 = 1 <;> simp [h0, h1] <;> omega

theorem HealthClasses.eq_of_code {h : HealthClasses} {n : Nat} (hn : h.code = n % 4) :
    h = ⟨decide (n % 2 = 1), decide (n / 2 % 2 = 1)⟩ := by
  obtain ⟨e, w⟩ := h
  cases e <;> cases w <;> simp [HealthClasses.code] at hn ⊢ <;> omega

theorem toNat_decide_bit (n : Nat) : (decide (n % 2 = 1)).toNat = n % 2 := by
  by_cases h : n % 2 = 1 <;> simp [h]
  omega

theorem eq_decide_of_toNat {b : Bool} {n : Nat} (h : b.toNat = n % 2) : b = decide (n % 2 = 1) := by
  cases b <;> simp [← h]

/-! ## Bytes and words -/

theorem byte_toNat {n : Nat} (h : n < 256) : (BitVec.ofNat 8 n).toNat = n := by
  rw [BitVec.toNat_ofNat, Nat.mod_eq_of_lt h]

/-- The two bytes of a word, high byte first. -/
theorem wordBytes_value (w : Word) : (BitVec.ofNat 8 (w.toNat / 256)).toNat * 256 + (BitVec.ofNat 8 w.toNat).toNat
    = w.toNat := by
  have hw := w.isLt
  rw [BitVec.toNat_ofNat, BitVec.toNat_ofNat]
  omega

theorem natWord_toNat {n : Nat} (h : n < 65536) : (natWord n).toNat = n := by
  rw [natWord, BitVec.toNat_ofNat, Nat.mod_eq_of_lt h]

@[simp] theorem natWord_self (w : Word) : natWord w.toNat = w := by simp [natWord]

/-- A number in the range of a signed word returns from it. -/
theorem intWord_toInt {i : Int} (hlo : -32768 ≤ i) (hhi : i ≤ 32767) : (natWord (intWord i).toNat).toInt = i := by
  rw [natWord_self, intWord, BitVec.toInt_ofInt, Int.bmod_eq_of_le] <;> omega

/-! ## The check code (R202) -/

theorem crcBits_eq_foldl (r : Word) (bits : List Bool) : crcBits r bits
    = bits.foldl (fun (r : Word) bit => if (r.getLsbD 15 != bit) = true then (r <<< 1) ^^^ 0x1021#16 else r <<< 1) r := by
  induction bits generalizing r with
  | nil => rfl
  | cons bit bits ih =>
    rw [crcBits, List.foldl_cons]
    split <;> exact ih _

theorem crcBits_append (r : Word) (a b : List Bool) : crcBits r (a ++ b) = crcBits (crcBits r a) b := by
  simp only [crcBits_eq_foldl, List.foldl_append]

/-- A register that meets its own bits shifts out. -/
theorem crcBits_own_bits (r : Word) (bits : List Bool) (h : ∀ k b, bits[k]? = some b → r.getLsbD (15 - k) = b)
    (hlen : bits.length ≤ 16) : crcBits r bits = r <<< bits.length := by
  induction bits generalizing r with
  | nil => simp [crcBits]
  | cons b bits ih =>
    have hfirst : r.getLsbD 15 = b := h 0 b rfl
    rw [List.length_cons] at hlen
    rw [crcBits, hfirst, if_neg (by simp), ih, List.length_cons, ← BitVec.shiftLeft_add, Nat.add_comm]
    · intro k c hk
      have hlt : k < bits.length := (List.getElem?_eq_some_iff.1 hk).1
      have hnext := h (k + 1) c hk
      rw [BitVec.getLsbD_shiftLeft]
      simp only [show 15 - k < 16 by omega, show ¬15 - k < 1 by omega, show 15 - k - 1 = 15 - (k + 1) by omega, hnext]
      rfl
    · omega

theorem wordBytes_bits (w : Word) : (wordBytes w).flatMap byteBits = (List.range 16).map (fun k => w.getLsbD (15 - k)) := by
  have hhigh (j : Nat) : (BitVec.ofNat 8 (w.toNat / 256)).getLsbD j = (decide (j < 8) && w.getLsbD (8 + j)) := by
    rw [BitVec.getLsbD_ofNat, show w.toNat / 256 = w.toNat >>> 8 from (Nat.shiftRight_eq_div_pow _ 8).symm,
      Nat.testBit_shiftRight]
    rfl
  have hlow (j : Nat) : (BitVec.ofNat 8 w.toNat).getLsbD j = (decide (j < 8) && w.getLsbD j) := by
    rw [BitVec.getLsbD_ofNat]
    rfl
  simp only [wordBytes, byteBits, List.flatMap_cons, List.flatMap_nil, List.map_cons, List.map_nil, hhigh, hlow]
  rfl

/-- The check code over bytes with their code behind them is 0 (R202). -/
theorem checkCode_append_self (bytes : List Byte) : checkCode (bytes ++ wordBytes (checkCode bytes)) = 0 := by
  conv_lhs => rw [checkCode, List.flatMap_append, crcBits_append]
  show crcBits (checkCode bytes) _ = 0
  rw [wordBytes_bits, crcBits_own_bits]
  · simp
  · intro k b hk
    simp only [List.getElem?_map, Option.map_eq_some_iff, List.getElem?_eq_some_iff, List.getElem_range] at hk
    obtain ⟨_, ⟨_, rfl⟩, rfl⟩ := hk
    rfl
  · simp

/-! ## The bytes of a frame (R199) -/

/-- What follows the sixteen bytes of the head: the echoes, the digest, the check code. -/
def ShareFrame.tail (f : ShareFrame) : List Byte :=
  f.echoes.map EchoEntry.byte ++ (f.digest.elim [] wordBytes ++ wordBytes (checkCode f.body))

theorem ShareFrame.body_eq (f : ShareFrame) :
    f.body = f.head ++ f.echoes.map EchoEntry.byte ++ f.digest.elim [] wordBytes := by
  unfold ShareFrame.body
  cases f.digest <;> rfl

theorem ShareFrame.bytes_eq (f : ShareFrame) : f.bytes = f.head ++ f.tail := by
  calc f.bytes = (f.head ++ f.echoes.map EchoEntry.byte ++ f.digest.elim [] wordBytes) ++ wordBytes (checkCode f.body) :=
        congrArg (· ++ wordBytes (checkCode f.body)) f.body_eq
    _ = f.head ++ f.tail := by simp only [ShareFrame.tail, List.append_assoc]

theorem ShareFrame.byteAt_head (f : ShareFrame) {k : Nat} (h : k < 16) : byteAt f.bytes k = byteAt f.head k := by
  unfold byteAt
  rw [f.bytes_eq, List.getD_append _ _ _ _ (show k < f.head.length from h)]

theorem ShareFrame.byteAt_tail (f : ShareFrame) (k : Nat) : byteAt f.bytes (16 + k) = byteAt f.tail k := by
  unfold byteAt
  rw [f.bytes_eq, List.getD_append_right _ _ _ _ (show f.head.length ≤ 16 + k from Nat.le_add_right 16 k)]
  congr 2
  show 16 + k - 16 = k
  omega

theorem ShareFrame.bytes_length (f : ShareFrame) :
    f.bytes.length = 18 + f.echoes.length + (if f.digest = none then 0 else 2) := by
  rw [f.bytes_eq, List.length_append, show f.head.length = 16 from rfl, ShareFrame.tail]
  cases f.digest <;> simp [wordBytes] <;> omega

theorem ShareFrame.bytes_take (f : ShareFrame) : f.bytes.take (f.bytes.length - 2) = f.body := by
  have hlen : f.bytes.length - 2 = f.body.length := by
    simp [ShareFrame.bytes, wordBytes]
  rw [hlen, ShareFrame.bytes, List.take_left]

/-- The last two bytes are the check code over the others (R199, R202). -/
theorem ShareFrame.wordAt_check (f : ShareFrame) : wordAt f.bytes (f.bytes.length - 2) = (checkCode f.body).toNat := by
  have hlen : f.bytes.length - 2 = f.body.length := by
    simp [ShareFrame.bytes, wordBytes]
  unfold wordAt byteAt
  rw [hlen, ShareFrame.bytes, List.getD_append_right _ _ _ _ (Nat.le_refl _),
    List.getD_append_right _ _ _ _ (Nat.le_add_right _ 1), Nat.sub_self, Nat.add_sub_cancel_left]
  exact wordBytes_value _

theorem ShareFrame.byteAt_echo (f : ShareFrame) {k : Nat} {x : EchoEntry} (h : f.echoes[k]? = some x) :
    byteAt f.bytes (16 + k) = x.originator.val * 16 + x.tag.val := by
  have horiginator := x.originator.isLt
  have htag := x.tag.isLt
  have hlt : k < (f.echoes.map EchoEntry.byte).length := by
    rw [List.length_map]
    exact (List.getElem?_eq_some_iff.1 h).1
  rw [f.byteAt_tail, byteAt, ShareFrame.tail, List.getD_append _ _ _ _ hlt, List.getD_eq_getElem?_getD, List.getElem?_map, h]
  exact byte_toNat (by omega)

theorem ShareFrame.wordAt_digest (f : ShareFrame) {d : Word} (h : f.digest = some d) :
    wordAt f.bytes (16 + f.echoes.length) = d.toNat := by
  have hlen : (f.echoes.map EchoEntry.byte).length = f.echoes.length := List.length_map _
  rw [wordAt, f.byteAt_tail, Nat.add_assoc, f.byteAt_tail, byteAt, byteAt, ShareFrame.tail,
    List.getD_append_right _ _ _ _ hlen.le, List.getD_append_right _ _ _ _ (hlen.le.trans (Nat.le_add_right _ 1)), hlen,
    Nat.sub_self, Nat.add_sub_cancel_left, h]
  exact wordBytes_value _

/-- What the bounds of a legal frame are (R31, R199). -/
theorem ShareFrame.legal_iff (f : ShareFrame) : f.legal = true ↔ f.state ≠ .config
    ∧ (-32768 ≤ f.demand ∧ f.demand ≤ 32767 ∧ -32768 ≤ f.applied ∧ f.applied ≤ 32767)
    ∧ (f.driveCapacity ≤ 65535 ∧ f.regenCapacity ≤ 65535 ∧ f.axleSpeed ≤ 4095 ∧ f.riseStep ≤ 255)
    ∧ f.echoes.length ≤ 3 ∧ echoesLegal f.sender f.echoes = true := by
  simp only [ShareFrame.legal, Bool.and_eq_true, decide_eq_true_eq, bne_iff_ne, and_assoc]

/-! ## Decoding (R19, R31) -/

/-- The bytes carry the frame: each field lies in its place, and the tests on fields pass. -/
structure Carries (bs : List Byte) (f : ShareFrame) : Prop where
  sender : f.sender = Fin.ofNat 4 (byteAt bs 0)
  seq : f.seq = bs.getD 2 0
  state : frameStateOfCode (byteAt bs 3 / 32) = some f.state
  basis : basisOfCode (byteAt bs 3 / 8 % 4) = some f.basis
  interval : f.interval.code = byteAt bs 3 / 4 % 2
  health : f.health.code = byteAt bs 3 % 4
  mode : modeOfCode (byteAt bs 4 / 64) = some f.mode
  slipFlag : f.slipFlag.toNat = byteAt bs 4 / 32 % 2
  tag : f.tag = Fin.ofNat 16 (byteAt bs 4)
  demand : f.demand = signedAt bs 5
  applied : f.applied = signedAt bs 7
  driveCapacity : f.driveCapacity = wordAt bs 9
  regenCapacity : f.regenCapacity = wordAt bs 11
  axleSpeed : f.axleSpeed = wordAt bs 13
  riseStep : f.riseStep = byteAt bs 15
  echoes : f.echoes = echoesAt bs (byteAt bs 1 % 4)
  digest : f.digest = if byteAt bs 1 / 128 = 1 then some (natWord (wordAt bs (16 + byteAt bs 1 % 4))) else none
  speed : f.axleSpeed ≤ 4095
  entries : echoesLegal f.sender f.echoes = true

theorem frameFields_eq_some {bs : List Byte} {f : ShareFrame} : frameFields bs = some f ↔ Carries bs f := by
  unfold frameFields
  dsimp only
  constructor
  · intro h
    split at h
    next st b m hst hb hm =>
      split at h
      next htest =>
        cases h
        exact ⟨rfl, rfl, hst, hb, Interval.code_ite _, HealthClasses.code_of_bits _, hm, toNat_decide_bit _, rfl, rfl, rfl,
          rfl, rfl, rfl, rfl, rfl, rfl, htest.1, htest.2⟩
      next => exact absurd h (by simp)
    next => exact absurd h (by simp)
  · intro h
    obtain ⟨sender, seq, st, basis, interval, health, mode, slipFlag, tag, demand, applied, drive, regen, speed, rise, echoes,
      digest⟩ := f
    obtain ⟨rfl, rfl, hst, hb, hi, hh, hm, hs, rfl, rfl, rfl, rfl, rfl, rfl, rfl, rfl, rfl, hspeed, hentries⟩ := h
    dsimp only at hst hb hi hh hm hs hspeed hentries
    rw [hst, hb, hm]
    dsimp only
    rw [if_pos ⟨hspeed, hentries⟩, Interval.eq_of_code hi, HealthClasses.eq_of_code hh, eq_decide_of_toNat hs]

theorem decodeFrame_eq_some {bs : List Byte} {f : ShareFrame} :
    decodeFrame bs = some f ↔ frameIntact bs = true ∧ Carries bs f := by
  unfold decodeFrame
  split
  next h => rw [frameFields_eq_some, and_iff_right h]
  next h => simp [h]

theorem byteAt_lt (bs : List Byte) (k : Nat) : byteAt bs k < 256 := (bs.getD k 0).isLt

theorem wordAt_lt (bs : List Byte) (k : Nat) : wordAt bs k < 65536 := by
  have hhigh := byteAt_lt bs k
  have hlow := byteAt_lt bs (k + 1)
  unfold wordAt
  omega

theorem signedAt_bounds (bs : List Byte) (k : Nat) : -32768 ≤ signedAt bs k ∧ signedAt bs k ≤ 32767 := by
  have hlo := (natWord (wordAt bs k)).le_two_mul_toInt
  have hhi := (natWord (wordAt bs k)).two_mul_toInt_lt
  unfold signedAt
  omega

theorem echoesAt_length (bs : List Byte) (count : Nat) : (echoesAt bs count).length = count := by
  simp [echoesAt]

/-- A frame that bytes carry is one the layout can carry (R31). -/
theorem Carries.legal {bs : List Byte} {f : ShareFrame} (h : Carries bs f) : f.legal = true := by
  have hdemand := signedAt_bounds bs 5
  have happlied := signedAt_bounds bs 7
  have hdrive := wordAt_lt bs 9
  have hregen := wordAt_lt bs 11
  have hrise := byteAt_lt bs 15
  have hlength := echoesAt_length bs (byteAt bs 1 % 4)
  rw [← h.demand] at hdemand
  rw [← h.applied] at happlied
  rw [← h.driveCapacity] at hdrive
  rw [← h.regenCapacity] at hregen
  rw [← h.riseStep] at hrise
  rw [← h.echoes] at hlength
  exact f.legal_iff.2 ⟨(frameStateOfCode_eq_some.1 h.state).1, ⟨hdemand.1, hdemand.2, happlied.1, happlied.2⟩,
    ⟨by omega, by omega, h.speed, by omega⟩, by omega, h.entries⟩

theorem decodeFrame_legal {bs : List Byte} {f : ShareFrame} (h : decodeFrame bs = some f) : f.legal = true :=
  (decodeFrame_eq_some.1 h).2.legal

/-! ## Every legal frame is carried by its bytes -/

/-- The sixteen bytes of the head, as numbers. -/
theorem ShareFrame.head_values {f : ShareFrame} (h : f.legal = true) :
    byteAt f.bytes 0 = f.sender.val
    ∧ byteAt f.bytes 1 = f.digest.isSome.toNat * 128 + f.echoes.length
    ∧ f.bytes.getD 2 0 = f.seq
    ∧ byteAt f.bytes 3 = f.state.code * 32 + f.basis.code * 8 + f.interval.code * 4 + f.health.code
    ∧ byteAt f.bytes 4 = f.mode.code * 64 + f.slipFlag.toNat * 32 + f.tag.val
    ∧ wordAt f.bytes 5 = (intWord f.demand).toNat ∧ wordAt f.bytes 7 = (intWord f.applied).toNat
    ∧ wordAt f.bytes 9 = f.driveCapacity ∧ wordAt f.bytes 11 = f.regenCapacity
    ∧ wordAt f.bytes 13 = f.axleSpeed ∧ byteAt f.bytes 15 = f.riseStep := by
  obtain ⟨-, -, ⟨hdrive, hregen, hspeed, hrise⟩, hechoes, -⟩ := f.legal_iff.1 h
  have hsender := f.sender.isLt
  have htag := f.tag.isLt
  have hstate := f.state.code_lt
  have hbasis := f.basis.code_lt
  have hinterval := f.interval.code_lt
  have hhealth := f.health.code_lt
  have hmode := f.mode.code_lt
  have hkind := f.digest.isSome.toNat_le
  have hslip := f.slipFlag.toNat_le
  have hword {k : Nat} (hk : k + 1 < 16) : wordAt f.bytes k = wordAt f.head k := by
    rw [wordAt, f.byteAt_head (by omega), f.byteAt_head hk]
    rfl
  rw [f.byteAt_head (by decide), f.byteAt_head (by decide), f.byteAt_head (by decide), f.byteAt_head (by decide),
    f.byteAt_head (by decide), hword (by decide), hword (by decide), hword (by decide), hword (by decide), hword (by decide)]
  refine ⟨byte_toNat (by omega), byte_toNat (by omega), ?_, byte_toNat (by omega), byte_toNat (by omega), wordBytes_value _,
    wordBytes_value _, (wordBytes_value _).trans (natWord_toNat (by omega)), (wordBytes_value _).trans (natWord_toNat (by omega)),
    (wordBytes_value _).trans (natWord_toNat (by omega)), byte_toNat (by omega)⟩
  rw [f.bytes_eq]
  rfl

/-- The echo entries lie behind the head, one byte each (R199). -/
theorem ShareFrame.echoesAt_bytes (f : ShareFrame) : echoesAt f.bytes f.echoes.length = f.echoes := by
  refine List.ext_getElem (echoesAt_length _ _) fun k hk hk' => ?_
  have hbyte := f.byteAt_echo (List.getElem?_eq_getElem hk')
  have horiginator := f.echoes[k].originator.isLt
  have htag := f.echoes[k].tag.isLt
  simp only [echoesAt, List.getElem_map, List.getElem_range, hbyte]
  generalize f.echoes[k] = x at horiginator htag
  obtain ⟨⟨o, ho⟩, ⟨g, hg⟩⟩ := x
  simp only [EchoEntry.mk.injEq, Fin.ofNat, Fin.mk.injEq]
  omega

theorem ShareFrame.carries_bytes {f : ShareFrame} (h : f.legal = true) : Carries f.bytes f := by
  obtain ⟨b0, b1, b2, b3, b4, w5, w7, w9, w11, w13, b15⟩ := f.head_values h
  obtain ⟨hconfig, ⟨hdlo, hdhi, halo, hahi⟩, ⟨-, -, hspeed, -⟩, hechoes, hlegal⟩ := f.legal_iff.1 h
  have htag := f.tag.isLt
  have hstate := f.state.code_lt
  have hbasis := f.basis.code_lt
  have hinterval := f.interval.code_lt
  have hhealth := f.health.code_lt
  have hmode := f.mode.code_lt
  have hslip := f.slipFlag.toNat_le
  have hcount : byteAt f.bytes 1 % 4 = f.echoes.length := by omega
  have hdigest : f.digest = if byteAt f.bytes 1 / 128 = 1 then
      some (natWord (wordAt f.bytes (16 + f.echoes.length))) else none := by
    cases hd : f.digest with
    | none => rw [if_neg (by simp only [hd, Option.isSome_none, Bool.toNat_false] at b1; omega)]
    | some d =>
      rw [if_pos (by simp only [hd, Option.isSome_some, Bool.toNat_true] at b1; omega), f.wordAt_digest hd, natWord_self]
  exact {
    sender := by rw [b0]; exact (Fin.ofNat_val_eq_self _).symm
    seq := b2.symm
    state := frameStateOfCode_eq_some.2 ⟨hconfig, by omega⟩
    basis := basisOfCode_eq_some.2 (by omega)
    interval := by omega
    health := by omega
    mode := modeOfCode_eq_some.2 (by omega)
    slipFlag := by omega
    tag := Fin.ext (show f.tag.val = byteAt f.bytes 4 % 16 by omega)
    demand := by rw [signedAt, w5, intWord_toInt hdlo hdhi]
    applied := by rw [signedAt, w7, intWord_toInt halo hahi]
    driveCapacity := w9.symm
    regenCapacity := w11.symm
    axleSpeed := w13.symm
    riseStep := b15.symm
    echoes := by rw [hcount, f.echoesAt_bytes]
    digest := by rw [hcount]; exact hdigest
    speed := hspeed
    entries := hlegal }

theorem ShareFrame.frameIntact_bytes {f : ShareFrame} (h : f.legal = true) : frameIntact f.bytes = true := by
  obtain ⟨-, b1, -⟩ := f.head_values h
  obtain ⟨-, -, -, hechoes, -⟩ := f.legal_iff.1 h
  have hlength : f.bytes.length = expectedLength (byteAt f.bytes 1) := by
    rw [f.bytes_length, b1, expectedLength]
    cases f.digest <;> simp <;> omega
  simp only [frameIntact, Bool.and_eq_true, beq_iff_eq]
  refine ⟨hlength, ?_⟩
  rw [f.bytes_take, f.wordAt_check, natWord_self]

theorem ShareFrame.decodeFrame_bytes {f : ShareFrame} (h : f.legal = true) : decodeFrame f.bytes = some f :=
  decodeFrame_eq_some.2 ⟨f.frameIntact_bytes h, f.carries_bytes h⟩

/-! ## The levels on the bus (R18, R19) -/

/-- A place in a list of blocks of one length. -/
theorem getElem?_flatMap_of_length {α β : Type} {g : α → List β} {n : Nat} (hg : ∀ x, (g x).length = n) {l : List α}
    {k j : Nat} {x : α} (hk : l[k]? = some x) (hj : j < n) : (l.flatMap g)[n * k + j]? = (g x)[j]? := by
  induction l generalizing k with
  | nil => simp at hk
  | cons y l ih =>
    rw [List.flatMap_cons]
    cases k with
    | zero =>
      rw [List.getElem?_cons_zero, Option.some.injEq] at hk
      rw [hk, Nat.mul_zero, Nat.zero_add, List.getElem?_append_left (by rw [hg]; exact hj)]
    | succ k =>
      rw [List.getElem?_append_right (by rw [hg, Nat.mul_succ]; omega), hg, Nat.mul_succ,
        show n * k + n + j - n = n * k + j by omega]
      exact ih hk

/-- A byte with its stop bit as heard, and the idle bit times after it. -/
def heardLevels (sent : List (Byte × Nat)) : List Bool :=
  sent.flatMap (fun p => shareByteLevels p.1 ++ List.replicate p.2 true)

/-- A receiver collects the bytes sent with fewer than 8 idle bit times between two, and waits on. -/
theorem collectAfter_heard {sent : List (Byte × Nat)} (h : ∀ p ∈ sent, p.2 < 8) {idle : Nat} (hidle : idle < 8) :
    ∃ idle' < 8, ∀ rest, collectAfter idle (heardLevels sent ++ rest)
      = sent.map (fun p => p.1) ++ collectAfter idle' rest := by
  induction sent generalizing idle with
  | nil => exact ⟨idle, hidle, fun rest => rfl⟩
  | cons p sent ih =>
    have hp : p.2 < 8 := h p List.mem_cons_self
    obtain ⟨idle', hlt, hrest⟩ := ih (fun q hq => h q (List.mem_cons_of_mem p hq)) hp
    refine ⟨idle', hlt, fun rest => ?_⟩
    rw [heardLevels, List.flatMap_cons, List.append_assoc, List.append_assoc, collectAfter_shareByteLevels,
      collectAfter_idle _ _ (by omega), Nat.zero_add, List.map_cons, List.cons_append]
    exact congrArg (p.1 :: ·) (hrest rest)

/-- Eight idle bit times end a collection, those before included. -/
theorem collectAfter_silence {idle n : Nat} (hidle : idle < 8) (h : 8 ≤ idle + n) (rest : List Bool) :
    collectAfter idle (List.replicate n true ++ rest) = [] := by
  induction n generalizing idle with
  | zero => omega
  | succ n ih =>
    show (if idle < 7 then collectAfter (idle + 1) (List.replicate n true ++ rest) else []) = []
    split
    next hlt => exact ih (by omega) (by omega)
    next => rfl

/-- A byte whose stop bit is dominant is the last (R19). -/
theorem collectAfter_last (idle : Nat) (x : Byte) (rest : List Bool) :
    collectAfter idle ((false :: byteBits x ++ [false]) ++ rest) = [x] := by
  show [byteOfBits (byteBits x)] = [x]
  rw [byteOfBits_byteBits]

/-- The levels before the first start bit do not count. -/
theorem collectBytes_of_idle (lead : Nat) {levels : List Bool} (h : levels.head? ≠ some true) :
    collectBytes (List.replicate lead true ++ levels) = collectAfter 0 (levels ++ List.replicate 9 true) := by
  unfold collectBytes
  rw [List.append_assoc, List.dropWhile_append_of_pos (by simp)]
  match levels with
  | [] => rfl
  | true :: rest => exact absurd rfl h
  | false :: rest => rfl

theorem heardLevels_head (sent : List (Byte × Nat)) (rest : List Bool) (h : rest.head? ≠ some true) :
    (heardLevels sent ++ rest).head? ≠ some true := by
  cases sent with
  | nil => exact h
  | cons p sent => exact fun hf => Bool.false_ne_true (Option.some.inj hf)

/-- The clauses on a collection, whatever was sent before (R18, R19). -/
theorem collectBytes_heard (lead : Nat) {sent : List (Byte × Nat)} (h : ∀ p ∈ sent, p.2 < 8) :
    collectBytes (List.replicate lead true ++ heardLevels sent) = sent.map (fun p => p.1)
    ∧ (∀ x after, collectBytes (List.replicate lead true ++ heardLevels sent ++ (false :: byteBits x ++ [false]) ++ after)
        = sent.map (fun p => p.1) ++ [x])
    ∧ ∀ x after, collectBytes (List.replicate lead true ++ heardLevels sent ++ shareByteLevels x
        ++ List.replicate 8 true ++ after) = sent.map (fun p => p.1) ++ [x] := by
  obtain ⟨idle, hidle, hrest⟩ := collectAfter_heard h (idle := 0) (by decide)
  refine ⟨?_, fun x after => ?_, fun x after => ?_⟩
  · have hhead := heardLevels_head sent [] (by simp)
    rw [List.append_nil] at hhead
    have hsilence := collectAfter_silence hidle (n := 9) (by omega) []
    rw [List.append_nil] at hsilence
    rw [collectBytes_of_idle lead hhead, hrest, hsilence, List.append_nil]
  · rw [List.append_assoc, List.append_assoc, collectBytes_of_idle lead (heardLevels_head sent _ (by simp)), List.append_assoc,
      hrest, List.append_assoc, collectAfter_last]
  · rw [List.append_assoc, List.append_assoc, List.append_assoc,
      collectBytes_of_idle lead (heardLevels_head sent _ (by simp [shareByteLevels])), List.append_assoc,
      hrest, List.append_assoc, List.append_assoc, collectAfter_shareByteLevels, collectAfter_gap]

theorem ShareFrame.collectBytes_levels (f : ShareFrame) : collectBytes f.levels = f.bytes := by
  have hlevels : heardLevels (f.bytes.map (fun x => (x, 0))) = f.levels := by
    simp [heardLevels, ShareFrame.levels, List.flatMap_map]
  obtain ⟨hcollect, -, -⟩ := collectBytes_heard 0 (sent := f.bytes.map (fun x => (x, 0))) (by simp)
  rw [hlevels] at hcollect
  refine hcollect.trans ?_
  rw [List.map_map]
  exact List.map_id _

/-- The level of the share bus in a byte of the frame in flight: start bit, data bits, stop bit. -/
theorem ShareBus.levelAt_of_inFlight {bus : ShareBus} {f : ShareFrame} (h : bus.inFlight = some f) {k j : Nat} {x : Byte}
    (hk : f.bytes[k]? = some x) (hj : j < 10) : bus.levelAt (10 * k + j) = (shareByteLevels x).getD j true := by
  have hplace := getElem?_flatMap_of_length shareByteLevels_length hk hj
  rw [ShareBus.levelAt, h]
  show f.levels.getD _ true = _
  rw [List.getD_eq_getElem?_getD, List.getD_eq_getElem?_getD]
  exact congrArg (Option.getD · true) hplace

theorem ShareBus.levelAt_after {bus : ShareBus} {f : ShareFrame} (h : bus.inFlight = some f) {n : Nat}
    (hn : 10 * f.bytes.length ≤ n) : bus.levelAt n = true := by
  rw [ShareBus.levelAt, h]
  exact List.getD_eq_default _ _ (f.levels_length ▸ hn)

/-- Settles O56. -/
theorem frameRoundTrip : Obligations.FrameRoundTrip := by
  refine ⟨fun f hf => ?_, fun bytes f hf => ?_, fun bytes => ⟨crcBits_eq_foldl _ _, checkCode_append_self bytes⟩,
    fun lead sent x after hsent => ?_⟩
  · obtain ⟨b0, b1, b2, b3, b4, w5, w7, w9, w11, w13, b15⟩ := f.head_values hf
    have hkind : f.digest.isSome.toNat * 128 = if f.digest = none then 0 else 128 := by cases f.digest <;> rfl
    have hlength := f.bytes_length
    have hcheck := f.wordAt_check
    rw [wordAt, show f.bytes.length - 2 + 1 = f.bytes.length - 1 by omega] at hcheck
    refine ⟨f.decodeFrame_bytes hf, hlength, b0, b1.trans (by rw [hkind]), congrArg BitVec.toNat b2, b3, b4, w5, w7, w9, w11, w13,
      b15, fun k x hx => f.byteAt_echo hx, fun d hd => ?_, ?_, rfl, rfl, rfl, rfl, rfl, f.collectBytes_levels,
      fun bus => ⟨fun hbus n => by rw [ShareBus.levelAt, hbus], fun hbus => ⟨fun k x hx => ⟨?_, ?_, fun j hj => ?_⟩, fun n hn => ?_⟩⟩⟩
    · have hword := f.wordAt_digest hd
      rwa [wordAt, show 16 + f.echoes.length + 1 = 17 + f.echoes.length by omega] at hword
    · rw [f.bytes_take]
      exact hcheck
    · exact ShareBus.levelAt_of_inFlight hbus hx (j := 0) (by decide)
    · exact ShareBus.levelAt_of_inFlight hbus hx (j := 9) (by decide)
    · rw [Nat.add_assoc, ShareBus.levelAt_of_inFlight hbus hx (by omega)]
      interval_cases j <;> rfl
    · exact ShareBus.levelAt_after hbus hn
  · obtain ⟨-, h⟩ := decodeFrame_eq_some.1 hf
    have hentry (k : Nat) (x : EchoEntry) (hx : f.echoes[k]? = some x) :
        x.originator.val = byteAt bytes (16 + k) / 16 % 4 ∧ x.tag.val = byteAt bytes (16 + k) % 16 := by
      rw [h.echoes, echoesAt, List.getElem?_map, Option.map_eq_some_iff] at hx
      obtain ⟨j, hj, rfl⟩ := hx
      obtain rfl : j = k := by
        obtain ⟨_, hj⟩ := List.getElem?_eq_some_iff.1 hj
        simpa using hj.symm
      exact ⟨rfl, rfl⟩
    have hdigest : f.digest = if 128 ≤ byteAt bytes 1 then
        some (natWord (byteAt bytes (16 + byteAt bytes 1 % 4) * 256 + byteAt bytes (17 + byteAt bytes 1 % 4))) else none := by
      have hlt := byteAt_lt bytes 1
      have hkind : byteAt bytes 1 / 128 = 1 ↔ 128 ≤ byteAt bytes 1 := by omega
      simp only [h.digest, hkind, wordAt, show 16 + byteAt bytes 1 % 4 + 1 = 17 + byteAt bytes 1 % 4 by omega]
    exact ⟨h.legal, congrArg Fin.val h.sender, congrArg BitVec.toNat h.seq, (frameStateOfCode_eq_some.1 h.state).2,
      basisOfCode_eq_some.1 h.basis, h.interval, h.health, modeOfCode_eq_some.1 h.mode, h.slipFlag, congrArg Fin.val h.tag,
      h.demand, h.applied, h.driveCapacity, h.regenCapacity, h.axleSpeed, h.riseStep,
      (congrArg List.length h.echoes).trans (echoesAt_length _ _), hentry, hdigest⟩
  · obtain ⟨hall, hlast, hgap⟩ := collectBytes_heard lead hsent
    exact ⟨hall, hlast x after, hgap x after⟩

end Sys2Proof.Machine
end

section
/-! PROOFS. Received frames: the tests of R31, and what an accepted frame changes (02_the_share_bus.md 2.4,
03_the_peer_table_and_the_period_view.md 3.1, 07_torque_handover.md 7.5 and 7.6). -/

namespace Sys2Proof.Machine

/-! ## The tests of R31, on the bytes -/

theorem wordBytes_injective {a b : Word} (h : wordBytes a = wordBytes b) : a = b := by
  rw [wordBytes, wordBytes, List.cons.injEq, List.cons.injEq] at h
  apply BitVec.eq_of_toNat_eq
  rw [← wordBytes_value a, ← wordBytes_value b, h.1, h.2.1]

/-- The last two bytes, as a word. -/
theorem drop_eq_wordBytes {bs : List Byte} (h : 2 ≤ bs.length) :
    bs.drop (bs.length - 2) = wordBytes (natWord (wordAt bs (bs.length - 2))) := by
  have hhigh := byteAt_lt bs (bs.length - 2)
  have hlow := byteAt_lt bs (bs.length - 2 + 1)
  have hword := natWord_toNat (wordAt_lt bs (bs.length - 2))
  have hbyte {k n : Nat} (hk : k < bs.length) (hn : n % 256 = byteAt bs k) : bs[k] = BitVec.ofNat 8 n := by
    apply BitVec.eq_of_toNat_eq
    rw [BitVec.toNat_ofNat, show 2 ^ 8 = 256 from rfl, hn, byteAt, List.getD_eq_getElem _ _ hk]
  rw [wordBytes, hword, List.drop_eq_getElem_cons (by omega), List.drop_eq_getElem_cons (by omega), List.drop_of_length_le (by omega),
    hbyte (n := wordAt bs (bs.length - 2) / 256) (by omega) (by unfold wordAt; omega),
    hbyte (n := wordAt bs (bs.length - 2)) (by omega) (by unfold wordAt; omega)]

/-- Test 1 of R31: the length by byte 1, and the check code (R19, R202). -/
theorem frameIntact_iff (bs : List Byte) : frameIntact bs = true ↔
    bs.length = 18 + byteAt bs 1 % 4 + (if 128 ≤ byteAt bs 1 then 2 else 0)
    ∧ wordBytes (checkCode (bs.take (bs.length - 2))) = bs.drop (bs.length - 2) := by
  have hlength : expectedLength (byteAt bs 1) = 18 + byteAt bs 1 % 4 + (if 128 ≤ byteAt bs 1 then 2 else 0) := by
    have hlt := byteAt_lt bs 1
    rw [expectedLength]
    split <;> omega
  simp only [frameIntact, Bool.and_eq_true, beq_iff_eq, hlength]
  refine and_congr_right fun hlen => ?_
  rw [drop_eq_wordBytes (by omega)]
  exact ⟨fun h => by rw [h], wordBytes_injective⟩

/-- The entries' part of test 2 of R31, on the bytes. -/
theorem echoesLegal_echoesAt (sender : Station) (bs : List Byte) (count : Nat) :
    echoesLegal sender (echoesAt bs count) = true ↔ ∀ k, k < count → byteAt bs (16 + k) % 16 ≠ 0
      ∧ byteAt bs (16 + k) / 16 % 4 ≠ sender.val
      ∧ ∀ j, j < k → byteAt bs (16 + j) / 16 % 4 ≠ byteAt bs (16 + k) / 16 % 4 := by
  have htag (n : Nat) : (Fin.ofNat 16 n != 0) = true ↔ n % 16 ≠ 0 := by
    rw [bne_iff_ne, Ne, Ne, Fin.ext_iff]
    rfl
  have hstation (n : Nat) (m : Station) : (Fin.ofNat 4 n != m) = true ↔ n % 4 ≠ m.val := by
    rw [bne_iff_ne, Ne, Ne, Fin.ext_iff]
    rfl
  have hpairs : (echoesAt bs count).Pairwise (fun a b => a.originator ≠ b.originator) ↔
      ∀ j k, j < k → k < count → byteAt bs (16 + j) / 16 % 4 ≠ byteAt bs (16 + k) / 16 % 4 := by
    rw [List.pairwise_iff_getElem]
    simp only [echoesAt_length]
    simp only [echoesAt, List.getElem_map, List.getElem_range, Ne, Fin.ext_iff]
    exact ⟨fun h j k hjk hk => h j k (hjk.trans hk) hk hjk, fun h j k _ hk hjk => h j k hjk hk⟩
  simp only [echoesLegal, Bool.and_eq_true, decide_eq_true_eq, List.all_eq_true, hpairs]
  simp only [echoesAt, List.mem_map, List.mem_range, forall_exists_index, and_imp, forall_apply_eq_imp_iff₂, htag, hstation]
  constructor
  · rintro ⟨hentry, hpair⟩ k hk
    exact ⟨(hentry k hk).1, (hentry k hk).2, fun j hj => hpair j k hj hk⟩
  · exact fun h => ⟨fun k hk => ⟨(h k hk).1, (h k hk).2.1⟩, fun j k hjk hk => (h k hk).2.2 j hjk⟩

/-- The bytes pass both tests exactly where they hold a frame (R31). -/
theorem decodeFrame_isSome (bs : List Byte) : (decodeFrame bs).isSome = true ↔ frameIntact bs = true
    ∧ 1 ≤ byteAt bs 3 / 32 ∧ byteAt bs 3 / 32 ≤ 4 ∧ byteAt bs 3 / 8 % 4 ≠ 3 ∧ wordAt bs 13 ≤ 4095
    ∧ echoesLegal (Fin.ofNat 4 (byteAt bs 0)) (echoesAt bs (byteAt bs 1 % 4)) = true := by
  have hmode : (modeOfCode (byteAt bs 4 / 64)).isSome = true := by
    have hlt := byteAt_lt bs 4
    have hcode : byteAt bs 4 / 64 < 4 := by omega
    generalize byteAt bs 4 / 64 = n at hcode
    interval_cases n <;> rfl
  have hstate : (frameStateOfCode (byteAt bs 3 / 32)).isSome = true ↔ 1 ≤ byteAt bs 3 / 32 ∧ byteAt bs 3 / 32 ≤ 4 := by
    generalize byteAt bs 3 / 32 = n
    rcases Nat.lt_or_ge n 5 with h | h
    · interval_cases n <;> simp [frameStateOfCode]
    · obtain ⟨k, rfl⟩ := Nat.exists_eq_add_of_le' h
      simp [frameStateOfCode]
  have hbasis : (basisOfCode (byteAt bs 3 / 8 % 4)).isSome = true ↔ byteAt bs 3 / 8 % 4 ≠ 3 := by
    have hcode : byteAt bs 3 / 8 % 4 < 4 := by omega
    generalize byteAt bs 3 / 8 % 4 = n at hcode
    interval_cases n <;> simp [basisOfCode]
  rw [← and_assoc (a := 1 ≤ byteAt bs 3 / 32), ← hstate, ← hbasis, decodeFrame]
  split
  next hintact =>
    unfold frameFields
    dsimp only
    obtain ⟨m, hm⟩ := Option.isSome_iff_exists.1 hmode
    rw [hm]
    cases frameStateOfCode (byteAt bs 3 / 32) <;> cases basisOfCode (byteAt bs 3 / 8 % 4) <;> simp [hintact]
  next hintact => simp [hintact]

/-- Settles O53. -/
theorem badFramesAreRejected : Obligations.BadFramesAreRejected := by
  intro bytes s ha hc hown b b1 phase bad
  have hb (k : Nat) : byteAt bytes k = b k := rfl
  have hbad : bad ↔ ¬(decodeFrame bytes).isSome = true := by
    rw [decodeFrame_isSome, frameIntact_iff, echoesLegal_echoesAt]
    simp only [hb, wordAt, bad, b1, not_and_or, not_forall, not_not, Nat.not_le, exists_prop, and_assoc, Ne, Nat.lt_one_iff]
    rfl
  refine ⟨fun h => ?_, fun h => ?_⟩
  · have hnone : decodeFrame bytes = none := Option.not_isSome_iff_eq_none.1 (hbad.1 h)
    have hjudge : s.endCollection.judgeFrame bytes = s.endCollection.reportReject := by rw [State.judgeFrame, hnone]
    rw [exec_frameReceived_of_foreign ha hc hown, hjudge]
    rfl
  · obtain ⟨f, hf⟩ := Option.isSome_iff_exists.1 (not_not.1 (mt hbad.2 h))
    refine ⟨f, hf, congrArg Fin.val (decodeFrame_eq_some.1 hf).2.sender, fun hmask => ?_⟩
    have hforeign : f.sender ∉ s.endCollection.expected := by
      rw [State.mem_expected]
      exact fun hin => Bool.false_ne_true (hmask.symm.trans hin)
    have hjudge : s.endCollection.judgeFrame bytes = s.endCollection.raise .unexpected := by
      rw [State.judgeFrame, hf]
      exact if_pos hforeign
    rw [exec_frameReceived_of_foreign ha hc hown, hjudge]
    rfl

/-! ## An accepted frame (R33, R34, R37, R42, R142, R145) -/

theorem State.param_markerMode (s : State) : s.param Idx.markerMode = min 2 (s.word 147).toNat :=
  (s.param_eq rfl rfl).trans (Nat.zero_max _)

theorem State.marksRx_eq (s : State) : s.marksRx = decide (2 ≤ (s.word 147).toNat) := by
  rw [State.marksRx, s.param_markerMode]
  exact decide_eq_decide.2 (by omega)

theorem State.marksSplit_eq (s : State) : s.marksSplit = decide (1 ≤ (s.word 147).toNat) := by
  rw [State.marksSplit, s.param_markerMode]
  exact decide_eq_decide.2 (by omega)

theorem ShareFrame.wakes_eq (f : ShareFrame) :
    f.wakes = decide (f.interval = .one ∧ (f.demand ≠ 0 ∨ f.axleSpeed ≠ 0)) := by
  rw [ShareFrame.wakes, Bool.decide_and, Bool.decide_or]

/-- What an accepted frame changes, block by block. -/
theorem State.acceptFrame_eq (s : State) (f : ShareFrame) : s.acceptFrame f = { s with
    pt := { s.pt with entries := s.pt.entries.map fun e =>
      if e.station = f.sender then { e with record := some (PeerRecord.accept e.record f) } else e }
    hou := HandoverUnit.seeTag { s.hou with record := s.hou.record.map (fun r => r.absorb s.own f) } f
    sbi := { s.sbi with wake := s.sbi.wake || f.wakes }
    hu := { s.hu with
      missed := min 65535 (s.hu.missed + missedGap (s.pt.recordOf f.sender) f)
      pmk := s.hu.pmk || s.marksRx
      pmkLeft := if s.marksRx = true then 2 else s.hu.pmkLeft } } := by
  let t : State := { (s.recordFrame f).handoverFrame f with sbi := { s.sbi with wake := s.sbi.wake || f.wakes } }
  have hmarks : t.marksRx = s.marksRx := by
    rw [State.marksRx_eq, State.marksRx_eq, State.word_congr (s := s) (t := t) rfl rfl]
  have hshape : s.acceptFrame f = if t.marksRx = true then t.requestPulse else t := rfl
  rw [hshape, hmarks]
  cases hm : s.marksRx
  · rw [if_neg (by decide), if_neg (by decide), Bool.or_false]
    rfl
  · rw [if_pos rfl, if_pos rfl, Bool.or_true]
    rfl

/-- The wording of a record's change by an echo (R142). -/
theorem HoRecord.absorb_peers (r : HoRecord) (own : Station) (f : ShareFrame) : r.absorb own f = { r with
    peers := r.peers.map (fun p => if ⟨own, r.tag⟩ ∈ f.echoes ∧ p.1 = f.sender ∧ p.2 = .awaiting then (p.1, .absorbed)
      else p) } := by
  have hmem : f.echoes.any (fun e => e.originator == own && e.tag == r.tag) = true ↔ ⟨own, r.tag⟩ ∈ f.echoes := by
    rw [List.any_eq_true]
    constructor
    · rintro ⟨⟨o, g⟩, he, htest⟩
      simp only [Bool.and_eq_true, beq_iff_eq] at htest
      obtain ⟨rfl, rfl⟩ := htest
      exact he
    · exact fun he => ⟨_, he, by simp⟩
  unfold HoRecord.absorb
  by_cases h : (⟨own, r.tag⟩ : EchoEntry) ∈ f.echoes
  · rw [if_pos (hmem.2 h)]
    simp only [h, true_and]
  · rw [if_neg (mt hmem.1 h)]
    simp [h]

/-- Settles O54. -/
theorem acceptedFrameReplacesTheRecord : Obligations.AcceptedFrameReplacesTheRecord := by
  intro bytes f s ha hc hf hown hmask hne gap last others
  have hexec : exec (.frameReceived bytes) s = .next (s.endCollection.acceptFrame f) := by
    rw [exec_frameReceived_of_foreign ha hc hown,
      State.judgeFrame_of_peer hf (s.endCollection.mem_expected.2 hmask) hne]
  refine ⟨_, hexec, ?_, fun k e he => ?_, fun hr => ?_, fun r hr => ?_, ?_, ?_⟩
  all_goals rw [State.acceptFrame_eq]
  · simp only [State.marksRx_eq, ShareFrame.wakes_eq, decide_eq_true_eq]
    rfl
  · refine ⟨_, (List.getElem?_map ..).trans (congrArg _ he), ?_⟩
    dsimp only
    by_cases hs : e.station = f.sender
    · rw [if_pos hs]
      refine ⟨rfl, rfl, fun h => absurd hs h, fun _ => ⟨_, rfl, rfl, rfl, rfl, fun d hd => ?_, fun hd => ?_, fun hr => ?_,
        fun r hr => ?_⟩⟩
      · simp [PeerRecord.accept, hd]
      · simp [PeerRecord.accept, hd]
      · simp [PeerRecord.accept, hr, missedGap, growTo]
      · simp [PeerRecord.accept, hr, missedGap, growTo]
    · rw [if_neg hs]
      exact ⟨rfl, rfl, fun _ => rfl, fun h => absurd h hs⟩
  · show (s.hou.record.map _) = none
    rw [hr, Option.map_none]
  · show (s.hou.record.map _) = some _
    rw [hr, Option.map_some, HoRecord.absorb_peers]
    rfl
  · have hothers : s.hou.echoDue.filter (fun e => e.originator != f.sender) = others :=
      List.filter_congr fun e _ => by rw [decide_not]; rfl
    rw [← hothers]
    rfl
  · rfl

end Sys2Proof.Machine
end

section
/-! PROOFS. The Wheel Speed Unit: pulses, samples, and the period timer's expiry (04_wheel_speed_and_slip.md). -/

namespace Sys2Proof.Machine

/-! ## Detections, as changes of the flags and the latch -/

theorem State.warnIf_eq (s : State) (c : Bool) (f : Flag) : s.warnIf c f = { s with
    sbi := { s.sbi with latch := { s.sbi.latch with warning := s.sbi.latch.warning || c } }
    hu := { s.hu with flags := s.hu.flags ||| (if c = true then BitVec.twoPow 16 f.bit else 0) } } := by
  cases c
  · rw [Bool.or_false, if_neg (by decide), show s.hu.flags ||| 0 = s.hu.flags from BitVec.or_zero]
    rfl
  · rw [Bool.or_true, if_pos rfl]
    rfl

/-- The watch on a frame that waits for a gap (R24). -/
theorem State.watchBus_eq (s : State) : s.watchBus =
    (let idle := if s.sbi.slot.isSome = true ∧ s.sbi.gapSeen = false then min 10 (s.sbi.idleWatch + 1) else 0
    { s with
      sbi := { s.sbi with
        idleWatch := idle, gapSeen := false, latch := { s.sbi.latch with error := s.sbi.latch.error || decide (idle = 10) } }
      hu := { s.hu with flags := s.hu.flags ||| (if idle = 10 then 0x0400#16 else 0) } }) := by
  have hcount : (if (s.sbi.slot.isSome && !s.sbi.gapSeen) = true then growTo 10 s.sbi.idleWatch 1 else 0)
      = if s.sbi.slot.isSome = true ∧ s.sbi.gapSeen = false then min 10 (s.sbi.idleWatch + 1) else 0 := by
    simp only [Bool.and_eq_true, Bool.not_eq_true', growTo]
  unfold State.watchBus
  dsimp only
  rw [hcount]
  generalize (if s.sbi.slot.isSome = true ∧ s.sbi.gapSeen = false then min 10 (s.sbi.idleWatch + 1) else 0) = n
  by_cases hn : n = 10
  · rw [if_pos hn, if_pos hn, decide_eq_true hn, Bool.or_true]
    rfl
  · rw [if_neg hn, if_neg hn, decide_eq_false hn, Bool.or_false, show s.hu.flags ||| 0 = s.hu.flags from BitVec.or_zero]

/-! ## A pulse (R62) -/

theorem usBetween_eq (earlier later : BitVec 32) :
    usBetween earlier later = if later = earlier then 1 else (later - earlier).toNat := by
  unfold usBetween
  by_cases h : later = earlier
  · rw [if_pos h, h, BitVec.sub_self]
    rfl
  · have hne : (later - earlier).toNat ≠ 0 := fun hz => h (by
      have hdiff : later - earlier = 0 := BitVec.eq_of_toNat_eq hz
      exact sub_eq_zero.1 hdiff)
    rw [if_neg h]
    omega

/-- Settles O24. -/
theorem wheelPulseUpdatesItsWheel : Obligations.WheelPulseUpdatesItsWheel := by
  intro wheel elapsed s ha now w
  refine ⟨w.nextDelta now, fun h => ?_, fun p h hx => ?_, fun p h hx => ?_, ?_⟩
  · simp only [WheelHistory.nextDelta, h]
  · simp only [WheelHistory.nextDelta, h, hx, if_true]
  · simp only [WheelHistory.nextDelta, h, hx, usBetween_eq, Bool.false_eq_true, if_false, longestGap]
    by_cases hnow : now = p
    · rw [if_pos hnow, if_pos hnow]
      rfl
    · rw [if_neg hnow, if_neg hnow]
      split <;> congr 1 <;> omega
  · show whenActive s (·.takePulse wheel elapsed) = _
    rw [whenActive_of_active ha]
    cases wheel <;> rfl

/-! ## A sample (R63 to R72) -/

/-- The Wheel Speed Unit after a sample. -/
def State.sampledUnit (s : State) (elapsed : BitVec 32) : WheelUnit := (s.sampleWheels elapsed).wsu

/-- A wheel's history, by its number. -/
def WheelUnit.history (u : WheelUnit) : Wheel → WheelHistory
  | .wheel0 => u.wheel0
  | .wheel1 => u.wheel1

/-- The trimmed speed of a wheel at a sample (R64, R66). -/
def State.sampledSpeed (s : State) (elapsed : BitVec 32) (wheel : Wheel) : Nat :=
  let now := s.wsu.usCount + elapsed
  trimSpeed (((s.wsu.history wheel).atSample now).speed now (s.wheelDistance wheel)) (s.wheelTrim wheel)

/-- The first two conditions of R68 for a wheel, given the other wheel's speed. -/
def State.silenceDue (s : State) (elapsed : BitVec 32) (wheel : Wheel) (otherSpeed : Nat) : Bool :=
  meetsSilent (s.param Idx.silentTime) (((s.wsu.history wheel).atSample (s.wsu.usCount + elapsed)).silentTimer) otherSpeed

/-- A wheel's silent condition after a sample: it stands, or is established (R68, R69). -/
def State.silentAfter (s : State) (elapsed : BitVec 32) (wheel other : Wheel) : Bool :=
  (s.wsu.history wheel).silent
    || (s.silenceDue elapsed wheel (s.sampledSpeed elapsed other) && !s.silenceDue elapsed other (s.sampledSpeed elapsed wheel)
      && !(s.wsu.wheel0.silent || s.wsu.wheel1.silent))

theorem State.sampledUnit_eq (s : State) (elapsed : BitVec 32) : s.sampledUnit elapsed =
    (let now := s.wsu.usCount + elapsed
    let v0 := s.sampledSpeed elapsed .wheel0
    let v1 := s.sampledSpeed elapsed .wheel1
    let silent0 := s.silentAfter elapsed .wheel0 .wheel1
    let silent1 := s.silentAfter elapsed .wheel1 .wheel0
    let axle := axleSpeed silent0 silent1 v0 v1
    let windowA := pushWindow s.wsu.windowA axle
    let windowB := pushWindow s.wsu.windowB (windowMean windowA (s.param Idx.nA))
    ⟨now, { s.wsu.wheel0.atSample now with silent := silent0 }, { s.wsu.wheel1.atSample now with silent := silent1 },
      windowA, windowB, ⟨v0, v1, silent0, silent1, axle, windowMean windowB (s.param Idx.nB)⟩⟩) := by
  rw [State.sampledUnit, State.sampleWheels, State.warnIf_eq]
  rfl

theorem State.sampleWheels_eq (s : State) (elapsed : BitVec 32) : s.sampleWheels elapsed =
    { s with wsu := s.sampledUnit elapsed }.warnIf
      ((s.sampledUnit elapsed).sample.silent0 || (s.sampledUnit elapsed).sample.silent1) .wheelSilent := by
  rw [s.sampledUnit_eq]
  rfl

/-- A sample asks for the wheels' histories and the parameters alone. -/
theorem State.sampledUnit_congr {s t : State} (hw : t.wsu = s.wsu) (hp : t.ps = s.ps) (hc : t.ctl.strap = s.ctl.strap)
    (elapsed : BitVec 32) : t.sampledUnit elapsed = s.sampledUnit elapsed := by
  simp only [State.sampledUnit_eq, State.silentAfter, State.silenceDue, State.sampledSpeed, State.wheelDistance, State.wheelTrim,
    State.param, State.word_congr hp hc, hw]

/-- PERIOD_TIMER_EXPIRY, block by block (R24, R63, R165, R179). -/
theorem State.takeExpiry_eq (s : State) (elapsed : BitVec 32) : s.takeExpiry elapsed =
    (let idle := if s.sbi.slot.isSome = true ∧ s.sbi.gapSeen = false then min 10 (s.sbi.idleWatch + 1) else 0
    let unit := s.sampledUnit elapsed
    let silent := unit.sample.silent0 || unit.sample.silent1
    { s with
      periodCount := s.periodCount + 1, stage := .sample, wsu := unit, icl := { s.icl with line := none }
      lp := { s.lp with demandAge := min 255 (s.lp.demandAge + 1) }
      sbi := { s.sbi with
        idleWatch := idle, gapSeen := false
        latch := ⟨s.sbi.latch.error || decide (idle = 10), s.sbi.latch.warning || silent⟩ }
      hu := { s.hu with flags := s.hu.flags ||| (if idle = 10 then 0x0400#16 else 0)
        ||| (if silent = true then 0x0008#16 else 0) } }) := by
  let started : State := { s with periodCount := s.periodCount + 1, icl := s.icl.idle }
  have hunit : started.watchBus.ageDemand.sampledUnit elapsed = s.sampledUnit elapsed := by
    refine State.sampledUnit_congr ?_ ?_ ?_ elapsed <;> rw [State.watchBus_eq] <;> rfl
  show { (started.watchBus.ageDemand.sampleWheels elapsed) with stage := .sample } = _
  rw [State.sampleWheels_eq, hunit, State.warnIf_eq, State.watchBus_eq]
  rfl

theorem exec_periodTimerExpiry {s : State} (ha : s.active = true) (elapsed : BitVec 32) :
    exec (.periodTimerExpiry elapsed) s = .next (s.takeExpiry elapsed) :=
  whenActive_of_active ha (·.takeExpiry elapsed)

/-- The expired mark at a sample (R63). -/
theorem WheelHistory.atSample_expired (w : WheelHistory) (now : BitVec 32) : (w.atSample now).expired = true ↔
    w.expired = true ∨ ∃ p, w.lastTime = some p ∧ 250000 < (now - p).toNat := by
  have hlong (p : BitVec 32) : longestGap < usBetween p now ↔ 250000 < (now - p).toNat := by
    unfold usBetween longestGap
    omega
  simp only [WheelHistory.atSample, WheelHistory.sinceLast, Bool.or_eq_true]
  cases w.lastTime with
  | none => simp
  | some p => simp [hlong]

/-- Settles O25. -/
theorem timerExpiryBeginsThePeriod : Obligations.TimerExpiryBeginsThePeriod := by
  intro elapsed s ha now idle
  refine ⟨s.takeExpiry elapsed, exec_periodTimerExpiry ha elapsed, ?_⟩
  rw [State.takeExpiry_eq]
  have hunit := s.sampledUnit_eq elapsed
  refine ⟨rfl, ?_, ?_, ?_, ?_, ?_, ?_, rfl, (Bool.or_assoc _ _ _).symm⟩
  · rw [hunit]
  · rw [hunit]
    rfl
  · rw [hunit]
    rfl
  · rw [hunit]
    exact s.wsu.wheel0.atSample_expired now
  · rw [hunit]
    exact s.wsu.wheel1.atSample_expired now
  · simp only [Bool.or_eq_true]
    rfl

/-! ## The speeds (R63 to R67) -/

theorem trimSpeed_zero (trim : Int) : trimSpeed 0 trim = 0 := by
  simp [trimSpeed]

/-- A trim keeps a speed from falling below 0, so the clamp alone bounds it (R66, R67). -/
theorem trimSpeed_cast (v : Nat) {trim : Int} (h : -50 ≤ trim) :
    (trimSpeed v trim : Int) = min 4095 ((v : Int) * (1000 + trim) / 1000) := by
  have hpos : 0 ≤ (v : Int) * (1000 + trim) / 1000 :=
    Int.ediv_nonneg (mul_nonneg (Int.natCast_nonneg v) (by omega)) (by decide)
  unfold trimSpeed
  omega

/-- A wheel below two pulses or past its longest gap stands (R64). -/
theorem WheelHistory.speed_of_standing {w : WheelHistory} (h : w.pulses < 2 ∨ w.expired = true) (now : BitVec 32)
    (distance : Nat) : w.speed now distance = 0 := if_pos h

/-- A turning wheel's speed (R64). -/
theorem WheelHistory.speed_of_turning {w : WheelHistory} {now p : BitVec 32} {delta : Nat} (hp : w.lastTime = some p)
    (hd : w.delta = some delta) (hcount : 2 ≤ w.pulses) (hx : (w.atSample now).expired = false) (distance : Nat) :
    (w.atSample now).speed now distance = min 8191 (distance * 576 / max delta (max 1 (now - p).toNat)) := by
  have hmoving : ¬((w.atSample now).pulses < 2 ∨ (w.atSample now).expired = true) := by
    rw [hx]
    simp only [Bool.false_eq_true, or_false, Nat.not_lt]
    exact hcount
  have hsince : (w.atSample now).sinceLast now = some (max 1 (now - p).toNat) := by
    show w.lastTime.map _ = _
    rw [hp]
    rfl
  rw [WheelHistory.speed, if_neg hmoving, hsince, show (w.atSample now).delta = some delta from hd]

/-- The speeds of a sample, as the rules give them (R63 to R67). -/
theorem State.sampledSpeed_spec (s : State) (elapsed : BitVec 32) (wheel : Wheel) :
    let w := s.wsu.history wheel
    let now := s.wsu.usCount + elapsed
    (w.pulses < 2 ∨ w.expired = true → s.sampledSpeed elapsed wheel = 0)
    ∧ (∀ p, w.lastTime = some p → 250000 < (now - p).toNat → s.sampledSpeed elapsed wheel = 0)
    ∧ (∀ p delta, w.lastTime = some p → w.delta = some delta → 2 ≤ w.pulses → w.expired = false →
        (now - p).toNat ≤ 250000 → (s.sampledSpeed elapsed wheel : Int) =
          min 4095 ((min 8191 (s.wheelDistance wheel * 576 / max delta (max 1 (now - p).toNat)) : Nat)
            * (1000 + s.wheelTrim wheel) / 1000)) := by
  intro w now
  have hexpired := w.atSample_expired now
  have hstanding (h : (w.atSample now).pulses < 2 ∨ (w.atSample now).expired = true) : s.sampledSpeed elapsed wheel = 0 := by
    show trimSpeed ((w.atSample now).speed now _) _ = 0
    rw [WheelHistory.speed_of_standing h, trimSpeed_zero]
  have htrim : -50 ≤ s.wheelTrim wheel := by
    cases wheel <;> exact (holdInt_bounds (by decide) _).1
  refine ⟨fun h => hstanding (h.imp_right fun hx => hexpired.2 (.inl hx)),
    fun p hp hlong => hstanding (.inr (hexpired.2 (.inr ⟨p, hp, hlong⟩))), fun p delta hp hd hcount hx hshort => ?_⟩
  have hrunning : (w.atSample now).expired = false := by
    rw [Bool.eq_false_iff, Ne, hexpired]
    rintro (hx' | ⟨q, hq, hlong⟩)
    · exact absurd hx' (by rw [hx]; decide)
    · obtain rfl : p = q := Option.some.inj (hp.symm.trans hq)
      omega
  show (trimSpeed ((w.atSample now).speed now _) _ : Int) = _
  rw [WheelHistory.speed_of_turning hp hd hcount hrunning, trimSpeed_cast _ htrim]

/-! ## Silence and the filter (R68 to R72) -/

theorem State.silenceDue_eq (s : State) (elapsed : BitVec 32) (wheel : Wheel) (v : Nat) : s.silenceDue elapsed wheel v = true ↔
    max 20 (min 2000 (s.word 148).toNat) ≤ min 2000 ((s.wsu.history wheel).silentTimer + 1) ∧ 64 < v := by
  rw [State.silenceDue, meetsSilent, Bool.and_eq_true, decide_eq_true_eq, decide_eq_true_eq, s.param_eq rfl rfl]
  rfl

/-- When a wheel is silent after a sample (R68, R69). -/
theorem State.silentAfter_iff (s : State) (elapsed : BitVec 32) {wheel other : Wheel} (hne : wheel ≠ other) :
    s.silentAfter elapsed wheel other = true ↔ (s.wsu.history wheel).silent = true
      ∨ (s.silenceDue elapsed wheel (s.sampledSpeed elapsed other) = true
        ∧ ¬s.silenceDue elapsed other (s.sampledSpeed elapsed wheel) = true ∧ (s.wsu.history other).silent = false) := by
  have hany : (s.wsu.wheel0.silent || s.wsu.wheel1.silent)
      = ((s.wsu.history wheel).silent || (s.wsu.history other).silent) := by
    cases wheel <;> cases other
    · exact absurd rfl hne
    · rfl
    · exact Bool.or_comm _ _
    · exact absurd rfl hne
  rw [State.silentAfter, hany]
  cases (s.wsu.history wheel).silent <;> simp [and_assoc]

/-- A window keeps its newest entries, eight at most (R71). -/
theorem pushWindow_spec (w : List Nat) (x : Nat) :
    (∃ dropped, w ++ [x] = dropped ++ pushWindow w x) ∧ (pushWindow w x).length = min 8 (w.length + 1) := by
  refine ⟨⟨_, (List.take_append_drop ((w ++ [x]).length - 8) (w ++ [x])).symm⟩, ?_⟩
  simp only [pushWindow, List.length_drop, List.length_append, List.length_singleton]
  omega

/-- The mean is that of the newest entries (R71). -/
theorem windowMean_spec (w : List Nat) (n : Nat) : ∃ older newest, w = older ++ newest
    ∧ newest.length = min n w.length ∧ windowMean w n = newest.sum / newest.length := by
  have hlength : (w.drop (w.length - min n w.length)).length = min n w.length := by
    rw [List.length_drop]
    omega
  exact ⟨_, _, (List.take_append_drop (w.length - min n w.length) w).symm, hlength, by rw [hlength]; rfl⟩

/-- Settles O26. -/
theorem sampledSpeedsSilentWheelsAndFilter : Obligations.SampledSpeedsSilentWheelsAndFilter := by
  intro elapsed s t ha hexec speedIs
  rw [exec_periodTimerExpiry ha] at hexec
  cases hexec
  have hunit : (s.takeExpiry elapsed).wsu = s.sampledUnit elapsed := by rw [State.takeExpiry_eq]
  have hdue0 := s.silenceDue_eq elapsed .wheel0 (s.sampledSpeed elapsed .wheel1)
  have hdue1 := s.silenceDue_eq elapsed .wheel1 (s.sampledSpeed elapsed .wheel0)
  have hnA : s.param Idx.nA = max 1 (min 8 (s.word 144).toNat) := s.param_eq rfl rfl
  have hnB : s.param Idx.nB = max 1 (min 8 (s.word 145).toNat) := s.param_eq rfl rfl
  intro time v0 v1 due0 due1 nA nB
  simp only [v0, v1, due0, due1, time]
  rw [hunit, s.sampledUnit_eq]
  dsimp only
  refine ⟨?_, ?_, rfl, rfl, rfl, (pushWindow_spec _ _).1, (pushWindow_spec _ _).2, ?_, (pushWindow_spec _ _).2, ?_, ?_, ?_⟩
  · rw [s.silentAfter_iff elapsed (by decide), hdue0, hdue1]
    rfl
  · rw [s.silentAfter_iff elapsed (by decide), hdue0, hdue1]
    rfl
  · obtain ⟨older, newest, hwindow, hlength, hmean⟩ := windowMean_spec (pushWindow s.wsu.windowA
      (axleSpeed (s.silentAfter elapsed .wheel0 .wheel1) (s.silentAfter elapsed .wheel1 .wheel0)
        (s.sampledSpeed elapsed .wheel0) (s.sampledSpeed elapsed .wheel1))) (s.param Idx.nA)
    obtain ⟨dropped, hdropped⟩ := (pushWindow_spec s.wsu.windowB (newest.sum / newest.length)).1
    rw [hnA] at hlength
    rw [hmean]
    exact ⟨_, older, newest, dropped, hwindow, hlength, rfl, hdropped⟩
  · rw [show nB = s.param Idx.nB from hnB.symm]
    exact windowMean_spec _ _
  · have hdistance : s.wheelDistance .wheel0 = max 500 (min 10000 (s.word 134).toNat) := s.param_eq rfl rfl
    obtain ⟨hstanding, hlong, hturning⟩ := s.sampledSpeed_spec elapsed .wheel0
    exact ⟨hstanding, hlong, hdistance ▸ hturning⟩
  · have hdistance : s.wheelDistance .wheel1 = max 500 (min 10000 (s.word 135).toNat) := s.param_eq rfl rfl
    obtain ⟨hstanding, hlong, hturning⟩ := s.sampledSpeed_spec elapsed .wheel1
    exact ⟨hstanding, hlong, hdistance ▸ hturning⟩

end Sys2Proof.Machine
end

section
/-! PROOFS. The Slip Unit: sign, reference, ratio, flag and traction limit (04_wheel_speed_and_slip.md 4.5 to 4.9). -/

namespace Sys2Proof.Machine

/-! ## The demand sign (R75) -/

/-- The used demand of a disagreement has a sign where all the demands have it (R108). -/
theorem State.usedDemand_sign {s : State} (h : s.pt.view.disagreement = true) :
    (0 < s.usedDemand ↔ 0 < s.ownDemand ∧ ∀ r, s.pt.view.Peer r → 0 < r.frame.demand)
    ∧ (s.usedDemand < 0 ↔ s.ownDemand < 0 ∧ ∀ r, s.pt.view.Peer r → r.frame.demand < 0) := by
  obtain ⟨hpos, hneg, hzero⟩ := State.usedDemand_spec h
  by_cases hp : 0 < s.ownDemand ∧ ∀ r, s.pt.view.Peer r → 0 < r.frame.demand
  · have hused : 0 < s.usedDemand := by
      obtain ⟨-, -, heq | ⟨r, hr, heq⟩⟩ := hpos hp.1 hp.2
      · exact heq ▸ hp.1
      · exact heq ▸ hp.2 r hr
    exact ⟨iff_of_true hused hp, iff_of_false (by omega) (fun h => absurd h.1 (by omega))⟩
  · by_cases hn : s.ownDemand < 0 ∧ ∀ r, s.pt.view.Peer r → r.frame.demand < 0
    · have hused : s.usedDemand < 0 := by
        obtain ⟨-, -, heq | ⟨r, hr, heq⟩⟩ := hneg hn.1 hn.2
        · exact heq ▸ hn.1
        · exact heq ▸ hn.2 r hr
      exact ⟨iff_of_false (by omega) hp, iff_of_true hused hn⟩
    · have hused := hzero hp hn
      exact ⟨iff_of_false (by omega) hp, iff_of_false (by omega) hn⟩

/-! ## The reference (R76, R77) -/

theorem State.peerSpeeds_min (s : State) : let v := s.peerSpeeds.foldl min s.ownSpeed
    v ≤ s.ownSpeed ∧ (∀ r, s.pt.view.Peer r → v ≤ r.frame.axleSpeed)
    ∧ (v = s.ownSpeed ∨ ∃ r, s.pt.view.Peer r ∧ v = r.frame.axleSpeed) := by
  have hspec := foldl_min_spec s.ownSpeed s.peerSpeeds
  rwa [State.peerSpeeds, s.pt.view.forall_peers (fun r => r.frame.axleSpeed) (_ ≤ ·),
    s.pt.view.mem_peers_map (fun r => r.frame.axleSpeed)] at hspec

theorem State.peerSpeeds_max (s : State) : let v := s.peerSpeeds.foldl max s.ownSpeed
    s.ownSpeed ≤ v ∧ (∀ r, s.pt.view.Peer r → r.frame.axleSpeed ≤ v)
    ∧ (v = s.ownSpeed ∨ ∃ r, s.pt.view.Peer r ∧ v = r.frame.axleSpeed) := by
  have hspec := foldl_max_spec s.ownSpeed s.peerSpeeds
  rwa [State.peerSpeeds, s.pt.view.forall_peers (fun r => r.frame.axleSpeed) (· ≤ _),
    s.pt.view.mem_peers_map (fun r => r.frame.axleSpeed)] at hspec

/-- With a positive or zero sign the reference is the greatest value below all of its bounds (R76). -/
theorem State.nextReference_up (s : State) {g : Sign} (hg : g ≠ .negative) :
    let up := s.slu.reference + s.param Idx.aUp
    s.nextReference g ≤ 16 * s.ownSpeed ∧ s.nextReference g ≤ up
    ∧ (∀ r, s.pt.view.Peer r → s.nextReference g ≤ 16 * r.frame.axleSpeed)
    ∧ (s.nextReference g = 16 * s.ownSpeed ∨ s.nextReference g = up
      ∨ ∃ r, s.pt.view.Peer r ∧ s.nextReference g = 16 * r.frame.axleSpeed) := by
  intro up
  have hreference : s.nextReference g = min (s.peerSpeeds.foldl min s.ownSpeed * 16) up := by
    cases g
    · exact absurd rfl hg
    · rfl
    · rfl
  obtain ⟨hown, hpeers, hattained⟩ := s.peerSpeeds_min
  rw [hreference]
  refine ⟨by omega, min_le_right _ _, fun r hr => ?_, ?_⟩
  · have := hpeers r hr
    omega
  · rcases min_choice (s.peerSpeeds.foldl min s.ownSpeed * 16) up with hmin | hmin
    · rcases hattained with h | ⟨r, hr, h⟩
      · exact .inl (by omega)
      · exact .inr (.inr ⟨r, hr, by omega⟩)
    · exact .inr (.inl hmin)

/-- With a negative sign it is the least value above them (R77). -/
theorem State.nextReference_down (s : State) :
    let down := s.slu.reference - s.param Idx.aDown
    16 * s.ownSpeed ≤ s.nextReference .negative ∧ down ≤ s.nextReference .negative
    ∧ (∀ r, s.pt.view.Peer r → 16 * r.frame.axleSpeed ≤ s.nextReference .negative)
    ∧ (s.nextReference .negative = 16 * s.ownSpeed ∨ s.nextReference .negative = down
      ∨ ∃ r, s.pt.view.Peer r ∧ s.nextReference .negative = 16 * r.frame.axleSpeed) := by
  intro down
  have hreference : s.nextReference .negative = max (s.peerSpeeds.foldl max s.ownSpeed * 16) down := rfl
  obtain ⟨hown, hpeers, hattained⟩ := s.peerSpeeds_max
  rw [hreference]
  refine ⟨by omega, le_max_right _ _, fun r hr => ?_, ?_⟩
  · have := hpeers r hr
    omega
  · rcases max_choice (s.peerSpeeds.foldl max s.ownSpeed * 16) down with hmax | hmax
    · rcases hattained with h | ⟨r, hr, h⟩
      · exact .inl (by omega)
      · exact .inr (.inr ⟨r, hr, by omega⟩)
    · exact .inr (.inl hmax)

/-! ## The traction limit, case by case (R81 to R84) -/

/-- TL as an evaluation finds it: in NONE it is the view's unlimited capacity (R81). -/
def SlipUnit.tlFound (u : SlipUnit) (i : TlInputs) : Nat := if u.tlState = .none then i.unlimited else u.tl

theorem SlipUnit.limit_of_rising (u : SlipUnit) (i : TlInputs) : u.limit i true = { u with
    tlState := .cut, tl := cutTo i.tlMin i.cut (min (u.tlFound i) i.applied), hold := 0, cutMark := true } := by
  unfold SlipUnit.limit SlipUnit.tlFound
  cases u.tlState <;> rfl

theorem SlipUnit.limit_of_none {u : SlipUnit} (h : u.tlState = .none) (i : TlInputs) :
    u.limit i false = { u with tl := i.unlimited } := by
  simp [SlipUnit.limit, h]

theorem SlipUnit.limit_of_cut {u : SlipUnit} (h : u.tlState = .cut) (hf : u.flag = true) (i : TlInputs) :
    u.limit i false = u.holdCut i := by
  simp [SlipUnit.limit, h, hf]

theorem SlipUnit.limit_of_clear {u : SlipUnit} (h : u.tlState ≠ .none) (hf : u.flag = false) (i : TlInputs) :
    u.limit i false = u.growTl i.recStep i.unlimited i.peak := by
  cases hs : u.tlState
  · exact absurd hs h
  all_goals simp [SlipUnit.limit, hs, hf]

theorem SlipUnit.limit_of_lasting {u : SlipUnit} (h : u.tlState = .recover) (hf : u.flag = true) (i : TlInputs) :
    u.limit i false = u := by
  simp [SlipUnit.limit, h, hf]

theorem SlipUnit.holdCut_frame (u : SlipUnit) (i : TlInputs) : u.holdCut i = { u with
    tl := (u.holdCut i).tl, hold := (u.holdCut i).hold, cutMark := (u.holdCut i).cutMark } := by
  unfold SlipUnit.holdCut
  split <;> rfl

theorem SlipUnit.growTl_frame (u : SlipUnit) (step unlimited peak : Nat) : u.growTl step unlimited peak = { u with
    tlState := (u.growTl step unlimited peak).tlState, tl := (u.growTl step unlimited peak).tl } := by
  unfold SlipUnit.growTl
  dsimp only
  split <;> rfl

/-- The limit moves TL, its state, the hold counter and the cut mark alone. -/
theorem SlipUnit.limit_frame (u : SlipUnit) (i : TlInputs) (rising : Bool) : u.limit i rising = { u with
    tlState := (u.limit i rising).tlState, tl := (u.limit i rising).tl, hold := (u.limit i rising).hold
    cutMark := (u.limit i rising).cutMark } := by
  cases rising
  · by_cases hnone : u.tlState = .none
    · rw [SlipUnit.limit_of_none hnone]
    · have hstate : u.tlState = .cut ∨ u.tlState = .recover := by
        cases hs : u.tlState <;> simp [hs] at hnone ⊢
      rcases Bool.eq_false_or_eq_true u.flag with hflag | hflag
      · rcases hstate with hs | hs
        · rw [SlipUnit.limit_of_cut hs hflag, SlipUnit.holdCut_frame]
        · rw [SlipUnit.limit_of_lasting hs hflag]
      · rw [SlipUnit.limit_of_clear hnone hflag, SlipUnit.growTl_frame]
  · rw [SlipUnit.limit_of_rising]

/-! ## An evaluation (R74 to R86) -/

/-- The unit with the new sign, reference, ratio and flag, before the traction limit is evaluated. -/
def State.flaggedSlip (s : State) : SlipUnit :=
  let g := s.demandSign
  let ratio := slipRatio s.ownSpeed (s.nextReference g)
  { s.slu.onSign g with
    reference := s.nextReference g, ratio := ratio
    flag := slipFlag g (s.param Idx.sOn) s.sHys ratio (s.slu.onSign g).flag, cutMark := false }

/-- The evaluation finds a rising edge of the flag (R82). -/
def State.slipRises (s : State) : Bool := s.flaggedSlip.flag && !(s.slu.onSign s.demandSign).flag

theorem State.evaluatedSlip_eq (s : State) :
    s.evaluatedSlip = s.flaggedSlip.limit (s.tlInputs s.demandSign) s.slipRises := rfl

/-- What the limit leaves of the evaluation. -/
theorem State.evaluatedSlip_fields (s : State) : s.evaluatedSlip.sign = s.demandSign
    ∧ s.evaluatedSlip.reference = s.nextReference s.demandSign
    ∧ s.evaluatedSlip.ratio = slipRatio s.ownSpeed (s.nextReference s.demandSign)
    ∧ s.evaluatedSlip.flag = s.flaggedSlip.flag := by
  have hsign : (s.slu.onSign s.demandSign).sign = s.demandSign := by
    unfold SlipUnit.onSign
    split
    next h => exact h.symm
    next => rfl
  rw [State.evaluatedSlip_eq, SlipUnit.limit_frame]
  exact ⟨hsign, rfl, rfl, rfl⟩

/-- After a change of sign the flag starts from clear (R80). -/
theorem SlipUnit.onSign_flag (u : SlipUnit) (g : Sign) : (u.onSign g).flag = (u.flag && decide (g = u.sign)) := by
  unfold SlipUnit.onSign
  split
  next h => rw [decide_eq_true h, Bool.and_true]
  next h => rw [decide_eq_false h, Bool.and_false]

theorem exec_slipEvaluation {s : State} (ha : s.active = true) (hs : s.stage = .view) :
    exec .slipEvaluation s = .next s.evaluateSlip :=
  onPublication_of_awaited ha hs _

theorem State.sHys_eq (s : State) :
    (s.sHys : Int) = min (((max 20 (min 500 (s.word 10).toNat) : Nat) : Int) - 1) ((s.word 11).toNat : Int) := by
  rw [State.sHys, holdNat, s.param_eq rfl rfl]
  show ((max 0 (min (max 20 (min 500 (s.word 10).toNat) - 1) (s.word 11).toNat) : Nat) : Int) = _
  omega

/-- The flag follows the ratio with hysteresis (R79). -/
theorem slipFlag_spec (g : Sign) (sOn sHys : Nat) (ratio : Int) (before : Bool) :
    (g = .zero → slipFlag g sOn sHys ratio before = false)
    ∧ (g = .positive → ((sOn : Int) ≤ ratio → slipFlag g sOn sHys ratio before = true)
      ∧ (ratio < sOn - sHys → slipFlag g sOn sHys ratio before = false)
      ∧ ((sOn : Int) - sHys ≤ ratio → ratio < sOn → slipFlag g sOn sHys ratio before = before))
    ∧ (g = .negative → (ratio ≤ -(sOn : Int) → slipFlag g sOn sHys ratio before = true)
      ∧ (-((sOn : Int) - sHys) < ratio → slipFlag g sOn sHys ratio before = false)
      ∧ (-(sOn : Int) < ratio → ratio ≤ -((sOn : Int) - sHys) → slipFlag g sOn sHys ratio before = before)) := by
  refine ⟨?_, ?_, ?_⟩
  · rintro rfl
    rfl
  · rintro rfl
    refine ⟨fun h => if_pos h, fun h => ?_, fun h1 h2 => ?_⟩
    · exact (if_neg (by omega)).trans (if_pos h)
    · exact (if_neg (by omega)).trans (if_neg (by omega))
  · rintro rfl
    refine ⟨fun h => if_pos h, fun h => ?_, fun h1 h2 => ?_⟩
    · exact (if_neg (by omega)).trans (if_pos h)
    · exact (if_neg (by omega)).trans (if_neg (by omega))

/-- Settles O30. -/
theorem slipEvaluationMovesReferenceAndFlag : Obligations.SlipEvaluationMovesReferenceAndFlag := by
  intro s ha hs own peer up down sOn sHys before speed
  have hown : s.ownDemand = own := s.ownDemand_eq
  have haUp : s.param Idx.aUp = max 1 (min 255 (s.word 16).toNat) := s.param_eq rfl rfl
  have haDown : s.param Idx.aDown = max 1 (min 255 (s.word 17).toNat) := s.param_eq rfl rfl
  have hsOn' : s.param Idx.sOn = max 20 (min 500 (s.word 10).toNat) := s.param_eq rfl rfl
  have hup : up = s.slu.reference + s.param Idx.aUp := by rw [haUp]
  have hdown : down = s.slu.reference - s.param Idx.aDown := by rw [haDown]
  have hsOn : sOn = s.param Idx.sOn := by rw [hsOn']
  have hsHys : sHys = s.sHys := s.sHys_eq.symm
  obtain ⟨hsign, hreference, hratio, hflag⟩ := s.evaluatedSlip_fields
  have hspec := slipFlag_spec s.demandSign (s.param Idx.sOn) s.sHys s.evaluatedSlip.ratio (s.slu.onSign s.demandSign).flag
  have hflag' : s.evaluatedSlip.flag = slipFlag s.demandSign (s.param Idx.sOn) s.sHys s.evaluatedSlip.ratio
      (s.slu.onSign s.demandSign).flag := by
    rw [hflag, hratio]
    rfl
  rw [← hflag', SlipUnit.onSign_flag, ← hsOn, ← hsHys, ← hsign] at hspec
  obtain ⟨hzero, hpositive, hnegative⟩ := hspec
  refine ⟨s.evaluateSlip, exec_slipEvaluation ha hs, rfl, fun hd => ?_, fun hd => ?_, fun hg => ?_, fun hg => ?_, ?_, hzero,
    hpositive, hnegative⟩
  · show (s.evaluatedSlip.sign = _ ↔ _) ∧ (s.evaluatedSlip.sign = _ ↔ _)
    rw [hsign, State.demandSign, Sign.ofInt_eq_positive, Sign.ofInt_eq_negative, State.usedDemand_of_agreement hd, hown]
    exact ⟨Iff.rfl, Iff.rfl⟩
  · show (s.evaluatedSlip.sign = _ ↔ _) ∧ (s.evaluatedSlip.sign = _ ↔ _)
    rw [hsign, State.demandSign, Sign.ofInt_eq_positive, Sign.ofInt_eq_negative, ← hown]
    exact State.usedDemand_sign hd
  · have hbounds := s.nextReference_up (hsign ▸ hg)
    rw [← hreference, ← hup] at hbounds
    exact hbounds
  · have hbounds := s.nextReference_down
    rw [← hsign.symm.trans hg, ← hreference, ← hdown] at hbounds
    exact hbounds
  · show s.evaluatedSlip.ratio = max (-1000) (min 1000 (Int.tdiv (((16 * s.ownSpeed : Nat) - (s.evaluatedSlip.reference : Int)) * 1000)
      (max s.evaluatedSlip.reference 512 : Nat)))
    rw [hratio, hreference, Nat.mul_comm 16]
    rfl

/-- What an evaluation of the limit starts from: after a change of sign from NONE, with the hold counter at 0 (R80,
R85). -/
theorem State.flaggedSlip_fields (s : State) :
    s.flaggedSlip.tlState = (if s.demandSign = s.slu.sign then s.slu.tlState else .none)
    ∧ s.flaggedSlip.hold = (if s.demandSign = s.slu.sign then s.slu.hold else 0)
    ∧ s.flaggedSlip.tl = s.slu.tl ∧ s.flaggedSlip.cutMark = false := by
  have hsign : s.slu.onSign s.demandSign = if s.demandSign = s.slu.sign then s.slu
      else { s.slu with sign := s.demandSign, flag := false, tlState := .none, hold := 0 } := rfl
  unfold State.flaggedSlip
  dsimp only
  rw [hsign]
  split <;> exact ⟨rfl, rfl, rfl, rfl⟩

theorem State.slipRises_iff (s : State) : s.slipRises = true ↔
    s.flaggedSlip.flag = true ∧ ¬(s.demandSign = s.slu.sign ∧ s.slu.flag = true) := by
  rw [State.slipRises, SlipUnit.onSign_flag, Bool.and_eq_true, Bool.not_eq_true', Bool.and_eq_false_iff, decide_eq_false_iff_not,
    not_and_or, Bool.not_eq_true, or_comm]

theorem State.tlInputs_cut (s : State) (g : Sign) (x : Nat) : cutTo (s.tlInputs g).tlMin (s.tlInputs g).cut x
    = max (min 2000 (s.word 15).toNat) (x * (16 - max 1 (min 8 (s.word 12).toNat)) / 16) := by
  have hmin : s.param Idx.tlMin = min 2000 (s.word 15).toNat := (s.param_eq rfl rfl).trans (Nat.zero_max _)
  have hcut : s.param Idx.cut = max 1 (min 8 (s.word 12).toNat) := s.param_eq rfl rfl
  show cutTo (s.param Idx.tlMin) (s.param Idx.cut) x = _
  rw [hmin, hcut]
  rfl

theorem State.wheelPeak_eq (s : State) (g : Sign) : s.wheelPeak g
    = if g = .negative then min 20000 (s.word 141).toNat else min 20000 (s.word 140).toNat := by
  cases g
  · exact s.param_regenPeak
  · exact s.param_drivePeak
  · exact s.param_drivePeak

/-- One growth of the limit in RECOVER (R84). -/
theorem SlipUnit.growTl_spec (u : SlipUnit) (step unlimited peak : Nat) :
    ((u.tl < unlimited ∧ unlimited ≤ u.tl + step) ∨ peak ≤ u.tl + step →
      u.growTl step unlimited peak = { u with tlState := .none, tl := unlimited })
    ∧ (¬((u.tl < unlimited ∧ unlimited ≤ u.tl + step) ∨ peak ≤ u.tl + step) →
      u.growTl step unlimited peak = { u with tlState := .recover, tl := u.tl + step }) :=
  ⟨fun h => if_pos h, fun h => if_neg h⟩

/-- Settles O31. -/
theorem tractionLimitCutsHoldsAndRecovers : Obligations.TractionLimitCutsHoldsAndRecovers := by
  intro s t ha hs hexec
  rw [exec_slipEvaluation ha hs] at hexec
  cases hexec
  obtain ⟨hsign, -, -, hflag⟩ := s.evaluatedSlip_fields
  obtain ⟨hstate, hhold, htl, hmark⟩ := s.flaggedSlip_fields
  have hrecStep : (s.tlInputs s.demandSign).recStep = max 1 (min 500 (s.word 14).toNat) := s.param_eq rfl rfl
  have hhSlip : (s.tlInputs s.demandSign).hSlip = max 1 (min 100 (s.word 13).toNat) := s.param_eq rfl rfl
  have hunlimited : (s.tlInputs s.demandSign).unlimited = if s.demandSign = .positive then s.pt.view.driveLimit
      else if s.demandSign = .negative then s.pt.view.regenLimit else max s.pt.view.driveLimit s.pt.view.regenLimit := by
    show s.pt.view.limit s.demandSign = _
    cases s.demandSign <;> rfl
  have hpeak : (s.tlInputs s.demandSign).peak = _ := s.wheelPeak_eq s.demandSign
  have hslu : s.evaluateSlip.slu = s.evaluatedSlip := rfl
  intro v unlimited peak same st tl rising cutOf grown
  rw [← hsign] at hstate hhold hunlimited hpeak
  have hst : s.flaggedSlip.tlState = st := hstate
  have hfound : s.flaggedSlip.tlFound (s.tlInputs s.demandSign) = tl := by
    rw [SlipUnit.tlFound, hst, htl, ← hsign, hunlimited]
    rfl
  have hrises : s.slipRises = true ↔ rising := by
    rw [s.slipRises_iff, ← hflag, ← hsign]
    rfl
  have hcut (x : Nat) : cutTo (s.tlInputs s.demandSign).tlMin (s.tlInputs s.demandSign).cut x = cutOf x := s.tlInputs_cut _ x
  have hcalm (h : ¬rising) : s.evaluatedSlip = s.flaggedSlip.limit (s.tlInputs s.demandSign) false := by
    rw [s.evaluatedSlip_eq, Bool.eq_false_iff.2 (mt hrises.1 h)]
  have hrise (h : rising) : s.evaluatedSlip = { s.flaggedSlip with
      tlState := .cut, tl := cutOf (min tl s.csh.applied.natAbs), hold := 0, cutMark := true } := by
    rw [s.evaluatedSlip_eq, hrises.2 h, SlipUnit.limit_of_rising, hfound, hcut]
    rfl
  have hquiet (h : ¬rising) (hnone : st = .none) : s.evaluatedSlip = { s.flaggedSlip with tl := unlimited } := by
    rw [hcalm h, SlipUnit.limit_of_none (hst.trans hnone), ← hsign, hunlimited]
    rfl
  show (_ → s.evaluatedSlip.hold = 0) ∧ _
  refine ⟨fun hchanged => ?_, fun h => ?_, fun h hnone => ?_, fun h hc hf => ?_, fun hactive hf => ?_⟩
  · by_cases h : rising
    · rw [hrise h]
    · rw [hquiet h (if_neg hchanged)]
      exact hhold.trans (if_neg hchanged)
  · show s.evaluatedSlip.tlState = _ ∧ s.evaluatedSlip.tl = _ ∧ s.evaluatedSlip.hold = 0 ∧ s.evaluatedSlip.cutMark = true
    rw [hrise h]
    exact ⟨rfl, rfl, rfl, rfl⟩
  · show s.evaluatedSlip.tlState = .none ∧ s.evaluatedSlip.tl = _ ∧ s.evaluatedSlip.cutMark = false
    rw [hquiet h hnone]
    exact ⟨hst.trans hnone, rfl, hmark⟩
  · have hsame : same := by
      by_contra hchanged
      exact absurd (hc.symm.trans (if_neg hchanged)) (by decide)
    have hheld : s.flaggedSlip.hold = s.slu.hold := hhold.trans (if_pos hsame)
    have hkept : s.flaggedSlip.tl = tl := htl.trans (if_neg (by rw [hc]; decide)).symm
    have heval : s.evaluatedSlip = s.flaggedSlip.holdCut (s.tlInputs s.demandSign) := by
      rw [hcalm h, SlipUnit.limit_of_cut (hst.trans hc) (hflag.symm.trans hf)]
    show s.evaluatedSlip.tlState = .cut ∧ (_ → s.evaluatedSlip.hold = _ ∧ s.evaluatedSlip.tl = tl ∧ s.evaluatedSlip.cutMark = false)
      ∧ (_ → s.evaluatedSlip.hold = 0 ∧ s.evaluatedSlip.tl = _ ∧ s.evaluatedSlip.cutMark = true)
    rw [heval, SlipUnit.holdCut, hheld, hhSlip, hkept, hcut]
    split
    next hlt => exact ⟨hst.trans hc, fun _ => ⟨rfl, rfl, hmark⟩, fun hge => absurd hlt (Nat.not_lt.2 hge)⟩
    next hge => exact ⟨hst.trans hc, fun hlt => absurd hlt hge, fun _ => ⟨rfl, rfl, rfl⟩⟩
  · have hcalm' : ¬rising := fun hr => Bool.false_ne_true (hf.symm.trans hr.1)
    have hkept : s.flaggedSlip.tl = tl := htl.trans (if_neg hactive).symm
    obtain ⟨hends, hgrows⟩ := s.flaggedSlip.growTl_spec (s.tlInputs s.demandSign).recStep (s.tlInputs s.demandSign).unlimited
      (s.tlInputs s.demandSign).peak
    have heval : s.evaluatedSlip = s.flaggedSlip.growTl (s.tlInputs s.demandSign).recStep (s.tlInputs s.demandSign).unlimited
        (s.tlInputs s.demandSign).peak := by
      rw [hcalm hcalm', SlipUnit.limit_of_clear (by rw [hst]; exact hactive) (hflag.symm.trans hf)]
    have hpeak' : (s.tlInputs s.demandSign).peak = peak := hsign ▸ hpeak
    have hunlimited' : (s.tlInputs s.demandSign).unlimited = unlimited := hsign ▸ hunlimited
    rw [hrecStep, hunlimited', hpeak', hkept] at hends hgrows
    rw [hrecStep, hunlimited', hpeak'] at heval
    show s.evaluatedSlip.cutMark = false ∧ (_ → s.evaluatedSlip.tlState = .none ∧ s.evaluatedSlip.tl = unlimited)
      ∧ (_ → s.evaluatedSlip.tlState = .recover ∧ s.evaluatedSlip.tl = grown)
    rw [heval]
    refine ⟨?_, fun h => ?_, fun h => ?_⟩
    · rw [SlipUnit.growTl_frame]
      exact hmark
    · rw [hends h]
      exact ⟨rfl, rfl⟩
    · rw [hgrows h]
      exact ⟨rfl, rfl⟩

end Sys2Proof.Machine
end

section
/-! PROOFS. The Command Shaper: conversions, target, slew, clamp, outcome
(08_command_shaping_and_the_inverter_command_line.md 8.2 to 8.6). -/

namespace Sys2Proof.Machine

/-! ## Signed magnitudes -/

/-- A magnitude with the sign of a number. -/
theorem Sign.ofInt_apply_nat (i : Int) (n : Nat) :
    (Sign.ofInt i).apply n = if i < 0 then -(n : Int) else if i = 0 then 0 else n := by
  unfold Sign.ofInt
  split_ifs <;> rfl

theorem Sign.ofInt_eq_ofInt (i j : Int) :
    Sign.ofInt i = Sign.ofInt j ↔ (i < 0 ∧ j < 0) ∨ (i = 0 ∧ j = 0) ∨ (0 < i ∧ 0 < j) := by
  unfold Sign.ofInt
  split_ifs <;> simp <;> omega

/-! ## Conversions (R153, R163) -/

/-- The nearest quotient, ties away from zero. -/
theorem nearest_spec {k r : Nat} (hr : 0 < r) (x : Int) {q : Nat} (hq : q = (2 * (x.natAbs * k) + r) / (2 * r)) :
    (2 * (x * k - (Sign.ofInt x).apply q * r)).natAbs ≤ r
    ∧ ((2 * (x * k - (Sign.ofInt x).apply q * r)).natAbs = r → x.natAbs * k < ((Sign.ofInt x).apply q).natAbs * r)
    ∧ ((Sign.ofInt x).apply q).natAbs = q := by
  have hlow : 2 * (q * r) ≤ 2 * (x.natAbs * k) + r := by
    have hdiv := Nat.div_mul_le_self (2 * (x.natAbs * k) + r) (2 * r)
    rw [← hq] at hdiv
    calc 2 * (q * r) = q * (2 * r) := by ring
      _ ≤ _ := hdiv
  have hhigh : 2 * (x.natAbs * k) < 2 * (q * r) + r := by
    have hdiv := Nat.lt_div_mul_add (a := 2 * (x.natAbs * k) + r) (b := 2 * r) (by omega)
    rw [← hq] at hdiv
    have hring : q * (2 * r) = 2 * (q * r) := by ring
    omega
  rcases lt_trichotomy x 0 with hx | hx | hx
  · have hneg : x = -(x.natAbs : Int) := by omega
    have happly : (Sign.ofInt x).apply q = -(q : Int) := by rw [Sign.ofInt_apply_nat, if_pos hx]
    have hdiff : 2 * (x * k - -(q : Int) * r) = -(2 * (((x.natAbs * k : Nat) : Int) - ((q * r : Nat) : Int))) := by
      conv_lhs => rw [hneg]
      push_cast
      ring
    rw [happly, hdiff]
    simp only [Int.natAbs_neg, Int.natAbs_natCast]
    refine ⟨by omega, fun h => by omega, trivial⟩
  · have hzero : q = 0 := by
      rw [hq, hx]
      exact Nat.div_eq_of_lt (by simp; omega)
    subst hx
    rw [hzero]
    simp [Sign.ofInt, Sign.apply]
    omega
  · have hpos : x = (x.natAbs : Int) := by omega
    have happly : (Sign.ofInt x).apply q = (q : Int) := by
      rw [Sign.ofInt_apply_nat, if_neg (by omega), if_neg (by omega)]
    have hdiff : 2 * (x * k - (q : Int) * r) = 2 * (((x.natAbs * k : Nat) : Int) - ((q * r : Nat) : Int)) := by
      conv_lhs => rw [hpos]
      push_cast
      ring
    rw [happly, hdiff]
    simp only [Int.natAbs_natCast]
    refine ⟨by omega, fun h => by omega, trivial⟩

theorem toMotor_eq (ratio : Nat) (x : Int) :
    toMotor ratio x = (Sign.ofInt x).apply ((2 * (x.natAbs * 1024) + ratio) / (2 * ratio)) := by
  rw [toMotor, Nat.mul_assoc]

theorem toWheel_eq (ratio : Nat) (x : Int) :
    toWheel ratio x = holdInt (-20000) 20000 ((Sign.ofInt x).apply ((2 * (x.natAbs * ratio) + 1024) / (2 * 1024))) := by
  rw [toWheel, Nat.mul_assoc]

/-- Settles O40. -/
theorem conversionsRoundToNearest : Obligations.ConversionsRoundToNearest := by
  intro ratio x hratio
  obtain ⟨hmotor, htie, -⟩ := nearest_spec hratio x (k := 1024) rfl
  obtain ⟨hwheel, htie', hmagnitude⟩ := nearest_spec (r := 1024) (by decide) x (k := ratio) rfl
  rw [← toMotor_eq] at hmotor htie
  refine ⟨hmotor, htie, fun hsmall => ?_, fun hlarge => ?_, ?_⟩
  · have hheld : toWheel ratio x = (Sign.ofInt x).apply ((2 * (x.natAbs * ratio) + 1024) / (2 * 1024)) := by
      rw [toWheel_eq, holdInt]
      omega
    rw [hheld]
    exact ⟨hwheel, htie'⟩
  · have hx : x ≠ 0 := by
      rintro rfl
      simp at hlarge
    rw [toWheel_eq, Sign.ofInt_apply_nat, holdInt]
    split_ifs <;> omega
  · have hbounds := holdInt_bounds (lo := -20000) (hi := 20000) (by decide)
      ((Sign.ofInt x).apply ((2 * (x.natAbs * ratio) + 1024) / (2 * 1024)))
    rw [← toWheel_eq] at hbounds
    omega

/-! ## The slew (R155, R156) -/

/-- A step of the command: it stands, rises, falls, or crosses toward the other sign. -/
theorem slew_cases (rise fall : Nat) (m u : Int) :
    (u = m ∧ slew rise fall m u = (m, .atTarget))
    ∨ ((m = 0 ∨ (0 < m ∧ m < u) ∨ (m < 0 ∧ u < m)) ∧ u ≠ m ∧ slew rise fall m u
        = ((Sign.ofInt u).apply (min u.natAbs (m.natAbs + rise)),
          if u.natAbs ≤ m.natAbs + rise then .atTarget else .riseLimited))
    ∨ (((0 < m ∧ 0 ≤ u ∧ u < m) ∨ (m < 0 ∧ u ≤ 0 ∧ m < u)) ∧ slew rise fall m u
        = ((Sign.ofInt m).apply (max u.natAbs (m.natAbs - fall)),
          if m.natAbs ≤ u.natAbs + fall then .atTarget else .fallLimited))
    ∨ (((0 < m ∧ u < 0) ∨ (m < 0 ∧ 0 < u)) ∧ fall < m.natAbs
        ∧ slew rise fall m u = ((Sign.ofInt m).apply (m.natAbs - fall), .fallLimited))
    ∨ (((0 < m ∧ u < 0) ∨ (m < 0 ∧ 0 < u)) ∧ m.natAbs ≤ fall ∧ slew rise fall m u = (0, .zeroStop)) := by
  unfold slew
  simp only [Sign.ofInt_eq_ofInt]
  by_cases heq : u = m
  · exact .inl ⟨heq, if_pos heq⟩
  by_cases hrise : m = 0 ∨ (((m < 0 ∧ u < 0) ∨ (m = 0 ∧ u = 0) ∨ (0 < m ∧ 0 < u)) ∧ m.natAbs < u.natAbs)
  · exact .inr (.inl ⟨by omega, heq, by rw [if_neg heq, if_pos hrise]⟩)
  by_cases hfall : ((m < 0 ∧ u < 0) ∨ (m = 0 ∧ u = 0) ∨ (0 < m ∧ 0 < u)) ∨ u = 0
  · exact .inr (.inr (.inl ⟨by omega, by rw [if_neg heq, if_neg hrise, if_pos hfall]⟩))
  by_cases hfar : fall < m.natAbs
  · exact .inr (.inr (.inr (.inl ⟨by omega, hfar, by rw [if_neg heq, if_neg hrise, if_neg hfall, if_pos hfar]⟩)))
  · exact .inr (.inr (.inr (.inr ⟨by omega, by omega, by rw [if_neg heq, if_neg hrise, if_neg hfall, if_neg hfar]⟩)))

/-- The move toward the target by at most a step, without passing it or 0, and its outcome (R155, R156, R161). -/
theorem slew_spec {rise fall : Nat} (hrise : 1 ≤ rise) (hfall : 1 ≤ fall) (m u : Int) :
    let x := (slew rise fall m u).1
    let o := (slew rise fall m u).2
    (u = m → x = m)
    ∧ (m < u → x = (if m < 0 then min (m + fall) (min u 0) else min (m + rise) u))
    ∧ (u < m → x = (if 0 < m then max (m - fall) (max u 0) else max (m - rise) u))
    ∧ (o = .atTarget ↔ x = u) ∧ (o = .riseLimited ↔ x ≠ u ∧ m.natAbs < x.natAbs)
    ∧ (o = .zeroStop ↔ m ≠ 0 ∧ x = 0 ∧ u ≠ 0) ∧ (o = .fallLimited ↔ x ≠ u ∧ x ≠ 0 ∧ x.natAbs < m.natAbs) := by
  rcases slew_cases rise fall m u with ⟨h, hslew⟩ | ⟨h, hne, hslew⟩ | ⟨h, hslew⟩ | ⟨h, hfar, hslew⟩ | ⟨h, hnear, hslew⟩
  all_goals
    rw [hslew]
    dsimp only
  · subst h
    simp
  · rw [Sign.ofInt_apply_nat]
    split_ifs <;> simp only [false_iff, true_iff] <;> omega
  · rw [Sign.ofInt_apply_nat]
    split_ifs <;> simp only [false_iff, true_iff] <;> omega
  · rw [Sign.ofInt_apply_nat]
    split_ifs <;> simp only [false_iff, true_iff] <;> omega
  · simp only [reduceCtorEq, false_iff, true_iff, ne_eq, not_true_eq_false, false_and, and_false, true_and, and_true]
    split_ifs <;> omega

/-! ## Target, clamp, publication (R149, R154, R158, R160) -/

theorem State.param_ratio (s : State) : s.param Idx.ratio = max 256 (min 8192 (s.word 138).toNat) := s.param_eq rfl rfl
theorem State.param_motorPeak (s : State) : s.param Idx.motorPeak = max 40 (min 4000 (s.word 139).toNat) := s.param_eq rfl rfl
theorem State.param_riseStep (s : State) : s.param Idx.riseStep = max 1 (min 400 (s.word 142).toNat) := s.param_eq rfl rfl
theorem State.param_fallStep (s : State) : s.param Idx.fallStep = max 1 (min 800 (s.word 143).toNat) := s.param_eq rfl rfl

/-- The target is held within the motor peak, with its sign (R154). -/
theorem holdPeak_spec (peak : Nat) (u : Int) :
    (u.natAbs ≤ peak → holdPeak peak u = (u, false))
    ∧ (peak < u.natAbs → (holdPeak peak u).1.natAbs = peak
      ∧ (0 < peak → Sign.ofInt (holdPeak peak u).1 = Sign.ofInt u) ∧ (holdPeak peak u).2 = true) := by
  refine ⟨fun h => if_neg (by omega), fun h => ?_⟩
  rw [show holdPeak peak u = ((Sign.ofInt u).apply peak, true) from if_pos h]
  dsimp only
  rw [Sign.ofInt_eq_ofInt, Sign.ofInt_apply_nat]
  refine ⟨?_, fun hpeak => ?_, rfl⟩ <;> split_ifs <;> omega

/-- The clamp takes the command to the bound, with its sign (R158). -/
theorem clampTo_spec (bound : Nat) (x : Int) (o : ShapeOutcome) :
    (x.natAbs ≤ bound → clampTo bound (x, o) = (x, o))
    ∧ (bound < x.natAbs → (clampTo bound (x, o)).1.natAbs = bound ∧ 0 ≤ (clampTo bound (x, o)).1 * x
      ∧ (clampTo bound (x, o)).2 = .tlClamped)
    ∧ (clampTo bound (x, o)).1.natAbs ≤ bound := by
  have hkeep : x.natAbs ≤ bound → clampTo bound (x, o) = (x, o) := fun h => if_neg (Nat.not_lt.2 h)
  have hclamp (h : bound < x.natAbs) : (clampTo bound (x, o)).1.natAbs = bound ∧ 0 ≤ (clampTo bound (x, o)).1 * x
      ∧ (clampTo bound (x, o)).2 = .tlClamped := by
    rw [show clampTo bound (x, o) = ((Sign.ofInt x).apply bound, .tlClamped) from if_pos h]
    dsimp only
    rw [Sign.ofInt_apply_nat]
    refine ⟨by split_ifs <;> omega, ?_, rfl⟩
    split_ifs with hneg hzero
    · exact mul_nonneg_of_nonpos_of_nonpos (by omega) (by omega)
    · rw [Int.zero_mul]
    · exact mul_nonneg (by omega) (by omega)
  refine ⟨hkeep, hclamp, ?_⟩
  rcases Nat.lt_or_ge bound x.natAbs with h | h
  · exact (hclamp h).1.le
  · rw [hkeep h]
    exact h

theorem exec_commandShaping {s : State} (ha : s.active = true) (hs : s.stage = .share) :
    exec .commandShaping s = .next s.shapeCommand :=
  onPublication_of_awaited ha hs _

/-- The target and the peak mark of a publication that acts (R154, R160, R161). -/
def State.heldTarget (s : State) : Int × Bool :=
  if s.ctl.state = .run then holdPeak (s.param Idx.motorPeak) (toMotor (s.param Idx.ratio) s.targetTorque) else (0, false)

theorem State.shaped_of_acting {s : State} (h : s.ctl.state = .run ∨ s.ctl.state = .stopping) :
    s.shaped = s.shapeToward s.heldTarget.1 s.heldTarget.2 := by
  rcases h with h | h <;> simp [State.shaped, State.heldTarget, h]

/-- Settles O41. -/
theorem commandMovesTowardItsTarget : Obligations.CommandMovesTowardItsTarget := by
  intro s t ha hs hexec hstate
  rw [exec_commandShaping ha hs] at hexec
  cases hexec
  have hcsh : s.shapeCommand.csh = s.shapeToward s.heldTarget.1 s.heldTarget.2 :=
    s.shapeCommand_csh.trans (State.shaped_of_acting hstate)
  have hratio := s.param_ratio
  have hpeak := s.param_motorPeak
  have hrise := s.param_riseStep
  have hfall := s.param_fallStep
  rw [hcsh]
  intro ratio peak rise fall bound m u torque
  have hslew := slew_spec (rise := rise) (fall := fall) (le_max_left _ _) (le_max_left _ _) m u
  have hclamp := clampTo_spec bound (slew rise fall m u).1 (slew rise fall m u).2
  have hcommand : (s.shapeToward s.heldTarget.1 s.heldTarget.2).command = (clampTo bound (slew rise fall m u)).1 := by
    show (clampTo (tlBound (s.param Idx.ratio) s.slu.tl) (slew (s.param Idx.riseStep) (s.param Idx.fallStep) _ _)).1 = _
    rw [hratio, hrise, hfall]
    rfl
  have houtcome : (s.shapeToward s.heldTarget.1 s.heldTarget.2).outcome = (clampTo bound (slew rise fall m u)).2 := by
    show (clampTo (tlBound (s.param Idx.ratio) s.slu.tl) (slew (s.param Idx.riseStep) (s.param Idx.fallStep) _ _)).2 = _
    rw [hratio, hrise, hfall]
    rfl
  have htarget : s.ctl.state = .run → s.heldTarget = holdPeak peak (toMotor ratio torque) := fun hrun => by
    rw [State.heldTarget, if_pos hrun, hpeak, hratio]
    rfl
  obtain ⟨hheld, hover⟩ := holdPeak_spec peak (toMotor ratio torque)
  obtain ⟨hkeep, hcut, hbound⟩ := hclamp
  obtain ⟨hstand, hup, hdown, hat, hrising, hzero, hfalling⟩ := hslew
  refine ⟨fun hstopping => ?_, fun hrun hle => ?_, fun hrun hlt => ?_, ?_, ?_, ?_, rfl⟩
  · show s.heldTarget.1 = 0 ∧ s.heldTarget.2 = false
    rw [State.heldTarget, hstopping]
    exact ⟨rfl, rfl⟩
  · show s.heldTarget.1 = _ ∧ s.heldTarget.2 = false
    rw [htarget hrun, hheld hle]
    exact ⟨rfl, rfl⟩
  · show s.heldTarget.1.natAbs = peak ∧ Sign.ofInt s.heldTarget.1 = _ ∧ s.heldTarget.2 = true
    rw [htarget hrun]
    obtain ⟨habs, hsign, hmark⟩ := hover hlt
    exact ⟨habs, hsign (lt_of_lt_of_le (by decide) (le_max_left 40 _)), hmark⟩
  · rw [hcommand]
    exact hbound
  · refine ⟨(slew rise fall m u).1, hstand, hup, hdown, fun hle => ?_, fun hlt => ?_⟩
    · rw [hcommand, houtcome, hkeep hle]
      exact ⟨rfl, hat, hrising, hzero, hfalling⟩
    · rw [hcommand, houtcome]
      exact hcut hlt
  · exact congrArg (toWheel · (s.shapeToward s.heldTarget.1 s.heldTarget.2).command) hratio

end Sys2Proof.Machine
end

section
/-! PROOFS. The view latch: ages, classes, copies, the two checks, and the loss of a peer
(03_the_peer_table_and_the_period_view.md, 07_torque_handover.md 7.4 and 7.6). -/

namespace Sys2Proof.Machine

/-! ## The latch outside CONFIG, block by block -/

/-- The table and the view with the ages grown and the copies made, before the two checks. -/
def State.copied (s : State) : State := { s with pt := { s.pt with
  entries := s.grownEntries.map (fun e => { e with prevClass := s.classOf e.record }), view := s.copiedView } }

/-- The disagreement counter after the check (R55). -/
def State.nextDisCounter (s : State) : Nat := if s.inDifference then growTo (s.param Idx.tDis) s.pt.disCounter 1 else 0

/-- The disagreement is established at this latch (R55). -/
def State.disagrees (s : State) : Bool := s.inDifference && decide (s.param Idx.tDis ≤ s.nextDisCounter)

/-- The digests are compared and differ (R57). -/
def State.mismatches (s : State) : Bool := decide (s.ctl.state = .run) && s.digestsDiffer

/-- The peers' losses close the open record (R144). -/
def HandoverUnit.expires (h : HandoverUnit) (lost : List Station) : Bool :=
  !lost.isEmpty && h.record.any (fun r => (r.excuse lost).allExcused)

theorem State.loseInHandover_of_none {s : State} {lost : List Station} (hl : lost.isEmpty = false)
    (hr : s.hou.record = none) : s.loseInHandover lost
      = { s with hou := { s.hou with echoDue := s.hou.echoDue.filter (fun e => !lost.contains e.originator) } } := by
  simp [State.loseInHandover, hl, hr]

theorem State.loseInHandover_of_expired {s : State} {lost : List Station} {r : HoRecord} (hl : lost.isEmpty = false)
    (hr : s.hou.record = some r) (hx : (r.excuse lost).allExcused = true) : s.loseInHandover lost
      = { s with hou := { s.hou with
          echoDue := s.hou.echoDue.filter (fun e => !lost.contains e.originator)
          record := none, report := .expired } }.raiseWarning .handoverExpired := by
  simp [State.loseInHandover, hl, hr, hx]

theorem State.loseInHandover_of_kept {s : State} {lost : List Station} {r : HoRecord} (hl : lost.isEmpty = false)
    (hr : s.hou.record = some r) (hx : (r.excuse lost).allExcused = false) : s.loseInHandover lost
      = { s with hou := { s.hou with
          echoDue := s.hou.echoDue.filter (fun e => !lost.contains e.originator), record := some (r.excuse lost) } } := by
  simp [State.loseInHandover, hl, hr, hx]

theorem State.loseInHandover_of_empty (s : State) {lost : List Station} (hl : lost.isEmpty = true) :
    s.loseInHandover lost = s := if_pos hl

theorem State.loseInHandover_eq (s : State) (lost : List Station) : s.loseInHandover lost
    = { s with hou := (s.loseInHandover lost).hou }.warnIf (s.hou.expires lost) .handoverExpired := by
  cases hl : lost.isEmpty with
  | true => simp [s.loseInHandover_of_empty hl, HandoverUnit.expires, hl]
  | false =>
    cases hr : s.hou.record with
    | none => simp [State.loseInHandover_of_none hl hr, HandoverUnit.expires, hr]
    | some r =>
      cases hx : (r.excuse lost).allExcused
      · simp [State.loseInHandover_of_kept hl hr hx, HandoverUnit.expires, hr, hx]
      · simp only [State.loseInHandover_of_expired hl hr hx, HandoverUnit.expires, hr, hx, hl, Option.any_some, Bool.not_false,
          Bool.true_and]
        rfl

theorem State.loseInHandover_hou {s t : State} (h : t.hou = s.hou) (lost : List Station) :
    (t.loseInHandover lost).hou = (s.loseInHandover lost).hou := by
  cases hl : lost.isEmpty with
  | true => rw [s.loseInHandover_of_empty hl, t.loseInHandover_of_empty hl, h]
  | false =>
    cases hr : s.hou.record with
    | none => rw [State.loseInHandover_of_none hl hr, State.loseInHandover_of_none hl (h ▸ hr), h]
    | some r =>
      cases hx : (r.excuse lost).allExcused
      · rw [State.loseInHandover_of_kept hl hr hx, State.loseInHandover_of_kept hl (h ▸ hr) hx, h]
      · rw [State.loseInHandover_of_expired hl hr hx, State.loseInHandover_of_expired hl (h ▸ hr) hx]
        show HandoverUnit.mk _ _ _ _ _ _ _ = _
        rw [h]
        rfl

theorem State.checkDigests_eq {s : State} (hm : s.pt.view.mismatch = false) : s.checkDigests = { s with
    pt := { s.pt with view := { s.pt.view with mismatch := s.mismatches } }
    hu := { s.hu with flags := s.hu.flags ||| (if s.mismatches = true then BitVec.twoPow 16 (Flag.bit .digestMismatch) else 0) } } := by
  unfold State.checkDigests
  cases hd : s.mismatches
  · have hno : ¬(s.ctl.state = .run ∧ s.digestsDiffer = true) := by
      rintro ⟨hrun, hdiffer⟩
      simp [State.mismatches, hrun, hdiffer] at hd
    rw [if_neg hno, if_neg (by decide), show s.hu.flags ||| 0 = s.hu.flags from BitVec.or_zero, ← hm]
  · rw [State.mismatches, Bool.and_eq_true, decide_eq_true_eq] at hd
    rw [if_pos hd, if_pos rfl]
    rfl

/-- The Handover Unit after the losses of a latch (R144, R148). -/
def State.houAfterLoss (s : State) : HandoverUnit := (s.loseInHandover s.lostNow).hou

/-- VIEW_LATCH outside CONFIG: the table, the view, the losses in the Handover Unit, the four detections (R44 to R57). -/
theorem State.latchView_eq {s : State} (hc : s.ctl.state ≠ .config) : s.latchView =
    (let dis := s.copied.disagrees
    let mis := s.copied.mismatches
    let lost := !s.lostNow.isEmpty
    let expired := s.hou.expires s.lostNow
    { s with
      stage := .view, hou := s.houAfterLoss
      pt := ⟨s.copied.pt.entries, s.copied.nextDisCounter, dis, { s.copiedView with disagreement := dis, mismatch := mis }⟩
      sbi := { s.sbi with latch := { s.sbi.latch with warning := s.sbi.latch.warning || lost || expired || dis } }
      hu := { s.hu with flags := s.hu.flags ||| (if lost = true then BitVec.twoPow 16 (Flag.bit .peerLost) else 0)
        ||| (if expired = true then BitVec.twoPow 16 (Flag.bit .handoverExpired) else 0)
        ||| (if dis = true then BitVec.twoPow 16 (Flag.bit .demandSplit) else 0)
        ||| (if mis = true then BitVec.twoPow 16 (Flag.bit .digestMismatch) else 0) } }) := by
  have hhou : (s.copyView.loseInHandover s.lostNow).hou = s.houAfterLoss :=
    State.loseInHandover_hou (s := s) (of_frame State.hou s.copyView_frame rfl) _
  have hcopied : s.copyView = s.copied.warnIf (!s.lostNow.isEmpty) .peerLost := rfl
  have hlost : s.copyView.loseInHandover s.lostNow
      = { s.copyView with hou := s.houAfterLoss }.warnIf (s.hou.expires s.lostNow) .handoverExpired := by
    rw [s.copyView.loseInHandover_eq s.lostNow, hhou, of_frame State.hou s.copyView_frame rfl]
  have hctl : (s.copyView.loseInHandover s.lostNow).ctl = s.ctl := by
    rw [State.loseInHandover_frame, State.copyView_frame]
  unfold State.latchView
  dsimp only
  rw [if_neg (by rw [hctl]; exact hc), hlost, hcopied, State.warnIf_eq, State.warnIf_eq, State.checkDigests_eq, State.checkDemands,
    State.warnIf_eq]
  · rfl
  · rw [State.checkDemands, State.warnIf_eq]
    rfl

theorem exec_viewLatch {s : State} (ha : s.active = true) (hs : s.stage = .sample) :
    exec .viewLatch s = .next s.latchView :=
  onPublication_of_awaited ha hs _

/-! ## Ages and classes (R44, R45) -/

theorem Interval.periods_eq (i : Interval) : i.periods = if i = .one then 1 else 16 := by cases i <;> rfl

theorem State.param_freshBound (s : State) : s.param Idx.freshBound = max 1 (min 15 (s.word 6).toNat) := s.param_eq rfl rfl

theorem State.param_graceBound (s : State) : s.param Idx.graceBound = min 15 (s.word 7).toNat :=
  (s.param_eq rfl rfl).trans (Nat.zero_max _)

theorem State.classOf_eq (s : State) (r : PeerRecord) : s.classOf (some r) =
    (let fresh := max 1 (min 15 (s.word 6).toNat)
    let grace := min 15 (s.word 7).toNat
    let periods := if r.frame.interval = .one then 1 else 16
    if r.age ≤ fresh * periods then .fresh else if r.age ≤ (fresh + grace) * periods then .grace else .lost) := by
  rw [State.classOf, ageClass, s.param_freshBound, s.param_graceBound, Interval.periods_eq]

/-- The table of a latch: ages grown, classes judged on the grown ages. -/
theorem State.copied_entries (s : State) : s.copied.pt.entries = s.pt.entries.map (fun e => match e.record with
    | none => ⟨e.station, none, .never⟩
    | some r => ⟨e.station, some { r with age := min 4095 (r.age + 1) }, s.classOf (some { r with age := min 4095 (r.age + 1) })⟩) := by
  show (s.pt.entries.map PeerEntry.grow).map _ = _
  rw [List.map_map]
  refine List.map_congr_left fun e _ => ?_
  obtain ⟨n, record, cls⟩ := e
  cases record <;> rfl

/-- The view's entries are those of the table. -/
theorem State.copiedView_entries {s : State} (hc : s.ctl.state ≠ .config) :
    s.copiedView.entries = s.copied.pt.entries.map (fun e => ⟨e.station, e.prevClass, e.record⟩) := by
  simp only [State.copiedView, State.copied, hc, ne_eq, not_false_eq_true, decide_true, if_true, List.map_map]
  rfl

theorem State.copiedView_isolated (s : State) : s.copiedView.isolated = true ↔
    s.copiedView.entries ≠ [] ∧ ∀ e ∈ s.copiedView.entries, e.cls = .lost ∨ e.cls = .never := by
  show (!s.copiedView.entries.isEmpty && s.copiedView.entries.all (fun e => !e.cls.participates)) = true ↔ _
  simp only [Bool.and_eq_true, Bool.not_eq_true', List.isEmpty_eq_false_iff, List.all_eq_true, AgeClass.not_participates_iff]

/-- Settles O27. -/
theorem viewLatchAgesAndCopies : Obligations.ViewLatchAgesAndCopies := by
  intro s ha hs fresh grace
  refine ⟨fun hc => ⟨s.latchView, exec_viewLatch ha hs, s.latchView_frame, ?_⟩, fun hc hentries => ?_⟩
  · rw [State.latchView_eq hc]
    refine ⟨rfl, ?_, s.copiedView_entries hc, fun n => ?_, fun n => ?_, s.copiedView_isolated, rfl, rfl, rfl, rfl, rfl, rfl, rfl⟩
    · refine s.copied_entries.trans (List.map_congr_left fun e _ => ?_)
      cases e.record with
      | none => rfl
      | some r =>
        exact congrArg (PeerEntry.mk e.station _) (s.classOf_eq _)
    · have hsets : s.copiedView.participants = participantsOf s.own s.copiedView.entries := by
        simp only [State.copiedView, hc, ne_eq, not_false_eq_true, decide_true, if_true]
      show n ∈ s.copiedView.participants ↔ _
      rw [hsets, mem_participantsOf]
      simp only [AgeClass.participates_iff]
      rfl
    · show n ∈ reservedOf s.copiedView.entries ↔ _
      rw [mem_reservedOf]
      simp only [AgeClass.not_participates_iff]
  · rw [exec_viewLatch ha hs]
    have hlost : s.lostNow = [] := by simp [State.lostNow, State.grownEntries, hentries]
    have hcopy : s.copyView = { s with pt := { s.pt with view := s.copiedView } } := by
      simp [State.copyView, hlost, State.grownEntries, hentries]
    have hview : s.copiedView = ⟨s.periodCount, [], s.lp.demand, s.lp.mode, s.lp.driveLimit, s.lp.regenLimit, s.lp.immediate,
        s.lp.demandAge, [], [], false, false, false⟩ := by
      simp [State.copiedView, hc, reservedOf]
    rw [State.latchView, hlost, hcopy, hview, State.loseInHandover_of_empty _ rfl]
    dsimp only
    rw [if_pos hc]

/-! ## The two checks (R54 to R57) -/

/-- A flag's mask has its bit alone. -/
theorem getLsbD_flag (c : Bool) (f : Flag) (k : Nat) :
    (if c = true then BitVec.twoPow 16 f.bit else 0 : Word).getLsbD k = (c && decide (k = f.bit)) := by
  have hbit : f.bit < 16 := by cases f <;> decide
  cases c
  · simp
  · rw [if_pos rfl, BitVec.getLsbD_twoPow, decide_eq_true hbit, Bool.true_and, Bool.true_and]
    exact decide_eq_decide.2 eq_comm

/-- The flags after a latch (R47, R55, R57, R144). -/
theorem State.latchView_flags {s : State} (hc : s.ctl.state ≠ .config) (k : Nat) : s.latchView.hu.flags.getLsbD k
    = (s.hu.flags.getLsbD k || (!s.lostNow.isEmpty && decide (k = 9)) || (s.hou.expires s.lostNow && decide (k = 5))
      || (s.copied.disagrees && decide (k = 7)) || (s.copied.mismatches && decide (k = 8))) := by
  rw [State.latchView_eq hc]
  simp only [BitVec.getLsbD_or, getLsbD_flag]
  rfl

theorem State.inDifference_iff (s : State) : s.inDifference = true ↔
    ∃ r, s.pt.view.Peer r ∧ min 2000 (s.word 20).toNat < (s.ownDemand - r.frame.demand).natAbs := by
  have htol : s.param Idx.dTol = min 2000 (s.word 20).toNat := (s.param_eq rfl rfl).trans (Nat.zero_max _)
  simp only [State.inDifference, List.any_eq_true, decide_eq_true_eq, htol, s.pt.view.peer_iff]
  constructor
  · rintro ⟨p, hp, hd⟩
    exact ⟨p.2, ⟨p, hp, rfl⟩, hd⟩
  · rintro ⟨_, ⟨p, hp, rfl⟩, hd⟩
    exact ⟨p, hp, hd⟩

theorem State.mismatches_iff (s : State) : s.mismatches = true ↔ s.ctl.state = .run
    ∧ ∃ r, s.pt.view.Peer r ∧ ∃ d, r.digest = some d ∧ s.ps.digest ≠ some d := by
  simp only [State.mismatches, State.digestsDiffer, Bool.and_eq_true, List.any_eq_true, decide_eq_true_eq, s.pt.view.peer_iff,
    Option.isSome_iff_exists]
  refine and_congr_right fun _ => ?_
  constructor
  · rintro ⟨p, hp, ⟨d, hd⟩, hne⟩
    exact ⟨p.2, ⟨p, hp, rfl⟩, d, hd, fun h => hne (hd.trans h.symm)⟩
  · rintro ⟨_, ⟨p, hp, rfl⟩, d, hd, hne⟩
    exact ⟨p, hp, ⟨d, hd⟩, fun h => hne (h.symm.trans hd)⟩

/-- Settles O28. -/
theorem viewLatchChecksDemandsAndDigests : Obligations.ViewLatchChecksDemandsAndDigests := by
  intro s t ha hs hc hexec
  rw [exec_viewLatch ha hs] at hexec
  cases hexec
  intro tDis own differs mismatch
  have htDis : s.param Idx.tDis = tDis := s.param_eq rfl rfl
  have hpeers (P : PeerRecord → Prop) : (∃ r, s.copied.pt.view.Peer r ∧ P r) ↔
      ∃ e ∈ s.copiedView.entries, (e.cls = .fresh ∨ e.cls = .grace) ∧ ∃ r, e.record = some r ∧ P r := by
    constructor
    · rintro ⟨r, ⟨e, he, hcls, hr⟩, hp⟩
      exact ⟨e, he, hcls, r, hr, hp⟩
    · rintro ⟨e, he, hcls, r, hr, hp⟩
      exact ⟨r, ⟨e, he, hcls, hr⟩, hp⟩
  have hentries : s.latchView.pt.view.entries = s.copiedView.entries := by rw [State.latchView_view]
  have hdiffers : s.copied.inDifference = true ↔ differs := by
    simp only [differs, hentries]
    rw [State.inDifference_iff, hpeers, State.ownDemand_eq]
    rfl
  have hmismatch : s.copied.mismatches = true ↔ mismatch := by
    rw [State.mismatches_iff, hpeers]
    simp only [mismatch, hentries, exists_and_left]
    rfl
  have hcounter : s.copied.nextDisCounter = if differs then min tDis (s.pt.disCounter + 1) else 0 := by
    rw [State.nextDisCounter, ← htDis]
    exact if_congr hdiffers rfl rfl
  have hdisagrees : s.copied.disagrees = true ↔ differs ∧ tDis ≤ s.pt.disCounter + 1 := by
    rw [State.disagrees, Bool.and_eq_true, decide_eq_true_eq, hdiffers, hcounter]
    show differs ∧ s.param Idx.tDis ≤ _ ↔ _
    rw [htDis]
    refine and_congr_right fun h => ?_
    rw [if_pos h]
    omega
  have hdis : s.latchView.pt.view.disagreement = s.copied.disagrees := by rw [State.latchView_eq hc]
  have hmis : s.latchView.pt.view.mismatch = s.copied.mismatches := by rw [State.latchView_eq hc]
  have hcount : s.latchView.pt.disCounter = s.copied.nextDisCounter := by rw [State.latchView_eq hc]
  refine ⟨fun h => ?_, fun h => ?_, ?_, ?_, ?_, ?_, fun h => ?_, ?_⟩
  · rw [hcount, hcounter, if_pos h]
  · rw [hcount, hcounter, if_neg h]
  · rw [hdis]
    exact hdisagrees
  · rw [hdis, State.latchView_eq hc]
  · rw [hmis]
    exact hmismatch
  · rw [State.latchView_flags hc, hdis]
    simp
  · rw [hdis] at h
    rw [State.latchView_eq hc, h]
    exact Bool.or_true _
  · rw [State.latchView_flags hc, hmis]
    simp

/-! ## The loss of a peer (R47, R144, R148) -/

theorem ageClass_lost_iff (fresh grace : Nat) (i : Interval) (age : Nat) :
    ageClass fresh grace i age = .lost ↔ (fresh + grace) * i.periods < age := by
  have hmono := Nat.mul_le_mul_right i.periods (Nat.le_add_right fresh grace)
  unfold ageClass
  split_ifs <;> simp only [false_iff, true_iff] <;> omega

theorem State.classOf_lost_iff (s : State) (r : PeerRecord) : s.classOf (some r) = .lost ↔
    (max 1 (min 15 (s.word 6).toNat) + min 15 (s.word 7).toNat) * (if r.frame.interval = .one then 1 else 16) < r.age := by
  rw [State.classOf, ageClass_lost_iff, s.param_freshBound, s.param_graceBound, Interval.periods_eq]

theorem State.mem_lostNow (s : State) (n : Station) : n ∈ s.lostNow ↔
    ∃ e ∈ s.pt.entries, e.station = n ∧ (e.prevClass = .fresh ∨ e.prevClass = .grace)
      ∧ ∃ r, e.record = some r ∧ (max 1 (min 15 (s.word 6).toNat) + min 15 (s.word 7).toNat)
          * (if r.frame.interval = .one then 1 else 16) < min 4095 (r.age + 1) := by
  have hentry (e : PeerEntry) : s.passesToLost e.grow = true ↔ (e.prevClass = .fresh ∨ e.prevClass = .grace)
      ∧ ∃ r, e.record = some r ∧ (max 1 (min 15 (s.word 6).toNat) + min 15 (s.word 7).toNat)
          * (if r.frame.interval = .one then 1 else 16) < min 4095 (r.age + 1) := by
    rw [State.passesToLost, Bool.and_eq_true, AgeClass.participates_iff, decide_eq_true_eq]
    refine and_congr_right fun _ => ?_
    obtain ⟨station, record, cls⟩ := e
    cases record with
    | none => simp [PeerEntry.grow, State.classOf]
    | some r =>
      refine (s.classOf_lost_iff { r with age := growTo 4095 r.age 1 }).trans ⟨fun h => ⟨r, rfl, h⟩, ?_⟩
      rintro ⟨r', hr, h⟩
      cases hr
      exact h
  simp only [State.lostNow, State.grownEntries, List.mem_map, List.mem_filter]
  constructor
  · rintro ⟨_, ⟨⟨e, he, rfl⟩, hlost⟩, rfl⟩
    exact ⟨e, he, rfl, (hentry e).1 hlost⟩
  · rintro ⟨e, he, rfl, hlost⟩
    exact ⟨e.grow, ⟨⟨e, he, rfl⟩, (hentry e).2 hlost⟩, rfl⟩

theorem HoRecord.excuse_allExcused (r : HoRecord) (lost : List Station) : (r.excuse lost).allExcused = true ↔
    ∀ p ∈ r.peers, p.1 ∈ lost ∨ p.2 = .excused := by
  simp only [HoRecord.allExcused, HoRecord.excuse, List.all_map, List.all_eq_true, Function.comp_apply, decide_eq_true_eq]
  refine forall₂_congr fun p _ => ?_
  by_cases h : p.1 ∈ lost
  · simp [h]
  · simp [h]

/-- The Handover Unit after a latch, in terms of the lost stations (R144, R148). -/
theorem State.houAfterLoss_spec (s : State) :
    s.houAfterLoss = { s.hou with
      record := s.houAfterLoss.record, report := s.houAfterLoss.report, echoDue := s.houAfterLoss.echoDue }
    ∧ s.houAfterLoss.echoDue = s.hou.echoDue.filter (fun e => !s.lostNow.contains e.originator)
    ∧ (s.hou.record = none → s.houAfterLoss.record = none ∧ s.houAfterLoss.report = s.hou.report)
    ∧ (s.lostNow.isEmpty = true → s.houAfterLoss = s.hou)
    ∧ ∀ r, s.hou.record = some r → s.lostNow.isEmpty = false →
      ((r.excuse s.lostNow).allExcused = true → s.houAfterLoss.record = none ∧ s.houAfterLoss.report = .expired)
      ∧ ((r.excuse s.lostNow).allExcused = false →
        s.houAfterLoss.record = some (r.excuse s.lostNow) ∧ s.houAfterLoss.report = s.hou.report) := by
  unfold State.houAfterLoss
  cases hl : s.lostNow.isEmpty with
  | true =>
    have hnil : s.lostNow = [] := List.isEmpty_iff.1 hl
    rw [s.loseInHandover_of_empty hl, hnil]
    exact ⟨rfl, by simp, fun hr => ⟨hr, rfl⟩, fun _ => rfl, fun r _ h => absurd h (by decide)⟩
  | false =>
    cases hr : s.hou.record with
    | none =>
      rw [State.loseInHandover_of_none hl hr]
      exact ⟨rfl, rfl, fun _ => ⟨hr, rfl⟩, fun h => absurd h (by decide), fun r h => absurd h (by simp)⟩
    | some r =>
      cases hx : (r.excuse s.lostNow).allExcused
      · rw [State.loseInHandover_of_kept hl hr hx]
        refine ⟨rfl, rfl, fun h => absurd h (by simp), fun h => absurd h (by decide), fun r' h _ => ?_⟩
        cases h
        exact ⟨fun h => absurd (hx.symm.trans h) (by decide), fun _ => ⟨rfl, rfl⟩⟩
      · rw [State.loseInHandover_of_expired hl hr hx]
        refine ⟨rfl, rfl, fun h => absurd h (by simp), fun h => absurd h (by decide), fun r' h _ => ?_⟩
        cases h
        exact ⟨fun _ => ⟨rfl, rfl⟩, fun h => absurd (hx.symm.trans h) (by decide)⟩

/-- The four detections of a latch, in the order of its stages and in the order of the statement. -/
theorem detections_regroup {before lost expired dis mis k9 k5 k7 k8 : Prop} :
    (((before ∨ lost ∧ k9) ∨ expired ∧ k5) ∨ dis ∧ k7) ∨ mis ∧ k8
      ↔ before ∨ k9 ∧ lost ∨ k7 ∧ dis ∨ k8 ∧ mis ∨ k5 ∧ expired := by
  tauto

/-- Settles O29. -/
theorem lossOfAPeer : Obligations.LossOfAPeer := by
  intro s t ha hs hc hexec
  rw [exec_viewLatch ha hs] at hexec
  cases hexec
  intro lost expired
  have hmem (n : Station) : n ∈ s.lostNow ↔ lost n := s.mem_lostNow n
  have hnone : s.lostNow.isEmpty = true ↔ ¬∃ n, lost n := by
    rw [List.isEmpty_iff, List.eq_nil_iff_forall_not_mem, not_exists]
    exact forall_congr' fun n => not_congr (hmem n)
  have hsome : s.lostNow.isEmpty = false ↔ ∃ n, lost n := by
    rw [← not_iff_not, Bool.not_eq_false, hnone]
  have hexcused (r : HoRecord) : (r.excuse s.lostNow).allExcused = true ↔ ∀ p ∈ r.peers, lost p.1 ∨ p.2 = .excused := by
    rw [HoRecord.excuse_allExcused]
    exact forall₂_congr fun p _ => or_congr_left (hmem p.1)
  have hexpires : s.hou.expires s.lostNow = true ↔ expired := by
    rw [HandoverUnit.expires, Bool.and_eq_true, Bool.not_eq_true', hsome]
    refine and_congr_right fun _ => ?_
    cases s.hou.record with
    | none => simp
    | some r => simpa using hexcused r
  have hhou : s.latchView.hou = s.houAfterLoss := by rw [State.latchView_eq hc]
  have hdis : s.latchView.pt.view.disagreement = s.copied.disagrees := by rw [State.latchView_eq hc]
  have hmis : s.latchView.pt.view.mismatch = s.copied.mismatches := by rw [State.latchView_eq hc]
  have hflags := State.latchView_flags hc
  have hwarning : s.latchView.sbi.latch.warning = (s.sbi.latch.warning || !s.lostNow.isEmpty || s.hou.expires s.lostNow
      || s.copied.disagrees) := by rw [State.latchView_eq hc]
  obtain ⟨hframe, hechoes, hclosed, hstands, hopen⟩ := s.houAfterLoss_spec
  rw [hhou]
  refine ⟨hframe, fun k => ?_, ?_, fun e => ?_, hclosed, fun h => hstands (hnone.2 h), fun r hr hl => ⟨fun h => ?_, fun h => ?_⟩⟩
  · rw [hflags, hdis, hmis]
    simp only [Bool.or_eq_true, Bool.and_eq_true, decide_eq_true_eq, Bool.not_eq_true', hsome, hexpires]
    exact detections_regroup
  · rw [hwarning, hdis]
    simp only [Bool.or_eq_true, Bool.not_eq_true', hsome, hexpires]
    rw [or_assoc, or_assoc, or_comm (a := expired)]
  · rw [hechoes, List.mem_filter, Bool.not_eq_true', ← Bool.not_eq_true, List.contains_iff_mem, hmem]
  · obtain ⟨hrecord, hreport⟩ := (hopen r hr (hsome.2 hl)).1 ((hexcused r).2 h)
    refine ⟨hrecord, hreport, ?_⟩
    rw [hflags]
    simp [hexpires.2 ⟨hl, r, hr, h⟩]
  · have hkept : (r.excuse s.lostNow).allExcused = false := by
      rw [← Bool.not_eq_true, hexcused]
      obtain ⟨p, hp, hstays, hmark⟩ := h
      exact fun hall => (hall p hp).elim hstays hmark
    obtain ⟨hrecord, hreport⟩ := (hopen r hr (hsome.2 hl)).2 hkept
    refine ⟨_, hrecord, rfl, hreport, List.length_map _, fun k p hp => ?_⟩
    refine ⟨_, (List.getElem?_map ..).trans (congrArg _ hp), ?_⟩
    have hcontains : s.lostNow.contains p.1 = true ↔ lost p.1 := List.contains_iff_mem.trans (hmem p.1)
    dsimp only
    split
    next hc => exact ⟨rfl, fun _ => rfl, fun hn => absurd (hcontains.1 hc) hn⟩
    next hc => exact ⟨rfl, fun hl => absurd (hcontains.2 hl) hc, fun _ => rfl⟩

end Sys2Proof.Machine
end

section
/-! PROOFS. The publication: schedule, interval, share frame, inverter frame, snapshot
(02_the_share_bus.md 2.2, 2.3 and 2.5, 08_command_shaping_and_the_inverter_command_line.md 8.7,
09_local_port_and_parameter_store.md 9.5). -/

namespace Sys2Proof.Machine

/-! ## The share bus at a publication (R25, R35 to R38) -/

/-- The SBI's interval at a publication (R35 to R38). -/
def State.steppedBus (s : State) : ShareBus := s.tested.intervalStep s.ctl.state

/-- The publication changes the interval, or enters STOPPED (R25). -/
def State.stepChanges (s : State) : Bool :=
  decide (s.steppedBus.interval ≠ s.tested.sbi.interval)
    || (decide (s.tested.ctl.state = .stopped) && decide (s.ctl.state ≠ .stopped))

/-- Whether this publication builds a frame, and the service counter after it (R25). -/
def State.schedule (s : State) : Bool × Nat :=
  frameDue s.tested.ctl.state s.tested.ctl.dupLatch s.stepChanges s.steppedBus.interval s.steppedBus.service

/-- The state in which this publication builds its frame, or ends without one. -/
def State.scheduled (s : State) : State := { s.tested with sbi := { s.steppedBus with service := s.schedule.2 } }

theorem State.tested_shareBusStep (s : State) :
    s.tested.shareBusStep s.ctl.state = if s.schedule.1 = true then s.scheduled.buildFrame else s.scheduled := rfl

theorem State.steppedBus_frame (s : State) : s.steppedBus = { s.sbi with
    interval := s.steppedBus.interval, quiet := s.steppedBus.quiet, wake := s.steppedBus.wake } := by
  unfold State.steppedBus
  rw [State.intervalStep_frame, s.tested_frame]

theorem State.scheduled_sbi (s : State) : s.scheduled.sbi = { s.sbi with
    interval := s.steppedBus.interval, quiet := s.steppedBus.quiet, wake := s.steppedBus.wake, service := s.schedule.2 } := by
  unfold State.scheduled
  rw [State.steppedBus_frame]

theorem State.scheduled_hu (s : State) : s.scheduled.hu = s.hu := by
  show s.tested.hu = s.hu
  rw [s.tested_frame]

/-- The SBI after a publication that builds no frame. -/
theorem State.shapeCommand_sbi_of_idle {s : State} (h : s.schedule.1 = false) : s.shapeCommand.sbi = s.scheduled.sbi := by
  rw [State.shapeCommand_sbi, State.tested_shareBusStep, if_neg (by rw [h]; decide)]

theorem State.shapeCommand_sbi_of_due {s : State} (h : s.schedule.1 = true) :
    s.shapeCommand.sbi = s.scheduled.buildFrame.sbi := by
  rw [State.shapeCommand_sbi, State.tested_shareBusStep, if_pos h]

/-- What a built frame leaves of the SBI. -/
theorem State.buildFrame_sbi_frame (s : State) : s.buildFrame.sbi = { s.sbi with
    seq := s.sbi.seq + 1, latch := .empty, slot := s.buildFrame.sbi.slot, inFlight := s.buildFrame.sbi.inFlight
    phase := s.buildFrame.sbi.phase } := by
  cases h : s.sbi.free
  · rw [State.buildFrame_of_busy h]
  · rw [State.buildFrame_of_free h]

/-- The interval, the quiet counter, the wake request and the service counter after a publication. -/
theorem State.shapeCommand_sbi_fields (s : State) : s.shapeCommand.sbi.interval = s.steppedBus.interval
    ∧ s.shapeCommand.sbi.quiet = s.steppedBus.quiet ∧ s.shapeCommand.sbi.wake = s.steppedBus.wake
    ∧ s.shapeCommand.sbi.service = s.schedule.2
    ∧ s.shapeCommand.sbi.seq = (if s.schedule.1 = true then s.sbi.seq + 1 else s.sbi.seq) := by
  cases h : s.schedule.1
  · rw [State.shapeCommand_sbi_of_idle h, State.scheduled_sbi, if_neg (by decide)]
    exact ⟨rfl, rfl, rfl, rfl, rfl⟩
  · rw [State.shapeCommand_sbi_of_due h, State.buildFrame_sbi_frame, State.scheduled_sbi, if_pos rfl]
    exact ⟨rfl, rfl, rfl, rfl, rfl⟩

theorem State.marksSplit_congr {s t : State} (hp : t.ps = s.ps) (hc : t.ctl.strap = s.ctl.strap) :
    t.marksSplit = s.marksSplit := by
  rw [State.marksSplit_eq, State.marksSplit_eq, State.word_congr hp hc]

/-- The health unit after a publication: what a displaced frame reports, and the pulse (R20, R197). -/
theorem State.shapeCommand_hu (s : State) : s.shapeCommand.hu =
    (let hu := if s.schedule.1 = true ∧ s.sbi.slot ≠ none then s.reportOverwrite.hu else s.hu
    { hu with pmk := hu.pmk || s.marksSplit, pmkLeft := if s.marksSplit = true then 2 else hu.pmkLeft }) := by
  have hstep : (s.tested.shareBusStep s.ctl.state).hu
      = if s.schedule.1 = true ∧ s.sbi.slot ≠ none then s.reportOverwrite.hu else s.hu := by
    rw [State.tested_shareBusStep]
    cases h : s.schedule.1
    · rw [if_neg (by decide), if_neg (by simp), State.scheduled_hu]
    · rw [if_pos rfl, State.buildFrame_hu, State.scheduled_sbi, State.scheduled_hu]
      by_cases hslot : s.sbi.slot = none
      · rw [if_pos hslot, if_neg (by simp [hslot])]
      · rw [if_neg hslot, if_pos ⟨rfl, hslot⟩, State.reportOverwrite_hu_eq, State.reportOverwrite_hu_eq, State.scheduled_hu]
  have hmarks : (s.tested.shareBusStep s.ctl.state).sendInverter.latchSnapshot.marksSplit = s.marksSplit := by
    refine State.marksSplit_congr ?_ ?_
    · show (s.tested.shareBusStep s.ctl.state).ps = s.ps
      rw [State.shareBusStep_frame, s.tested_frame]
    · show (s.tested.shareBusStep s.ctl.state).ctl.strap = s.ctl.strap
      rw [State.shareBusStep_frame, s.tested_frame]
  rw [State.shapeCommand_eq]
  dsimp only
  rw [hmarks, ← hstep]
  cases s.marksSplit
  · rw [if_neg (by decide), if_neg (by decide), Bool.or_false]
    rfl
  · rw [if_pos rfl, if_pos rfl, Bool.or_true]
    rfl

/-! ## The schedule of frames (R25) -/

theorem State.tested_dupLatch (s : State) : s.tested.ctl.dupLatch = s.ctl.dupLatch := by
  rw [s.tested_frame]

/-- When a frame is due, and the service counter after it (R25). -/
theorem State.schedule_spec (s : State) :
    (s.ctl.state = .config ∨ s.ctl.dupLatch = true → s.schedule = (false, s.sbi.service))
    ∧ (¬(s.ctl.state = .config ∨ s.ctl.dupLatch = true) → s.stepChanges = true → s.schedule = (true, 0))
    ∧ (¬(s.ctl.state = .config ∨ s.ctl.dupLatch = true) → s.stepChanges = false → s.steppedBus.interval = .one →
        s.schedule = (true, s.sbi.service))
    ∧ (¬(s.ctl.state = .config ∨ s.ctl.dupLatch = true) → s.stepChanges = false → s.steppedBus.interval = .sixteen →
        s.schedule = if s.sbi.service + 1 < 16 then (false, s.sbi.service + 1) else (true, 0)) := by
  have hservice : s.steppedBus.service = s.sbi.service := by rw [s.steppedBus_frame]
  rw [← s.tested_state_config_iff, ← s.tested_dupLatch, State.schedule, hservice]
  unfold frameDue
  refine ⟨fun h => if_pos h, fun h hc => ?_, fun h hc hi => ?_, fun h hc hi => ?_⟩
  · rw [if_neg h, if_pos hc]
  · rw [if_neg h, hc, hi]
    rfl
  · rw [if_neg h, hc, hi]
    rfl

/-- Settles O44. -/
theorem framesAreBuiltOnSchedule : Obligations.FramesAreBuiltOnSchedule := by
  intro s t ha hs hexec changed silent
  rw [exec_commandShaping ha hs] at hexec
  cases hexec
  obtain ⟨hinterval, hquiet, hwake, hservice, hseq⟩ := s.shapeCommand_sbi_fields
  have htested : s.tested.sbi.interval = s.sbi.interval := by rw [s.tested_frame]
  have hchanged : s.stepChanges = true ↔ changed := by
    simp only [changed, State.stepChanges, Bool.or_eq_true, Bool.and_eq_true, decide_eq_true_eq, htested, hinterval,
      s.shapeCommand_ctl]
  have hunchanged : s.stepChanges = false ↔ ¬changed := by
    rw [← hchanged, Bool.not_eq_true]
  obtain ⟨hnever, hatChange, hone, hsixteen⟩ := s.schedule_spec
  have hidle (h : s.schedule.1 = false) : s.shapeCommand.sbi = { s.sbi with
      interval := s.shapeCommand.sbi.interval, service := s.shapeCommand.sbi.service, quiet := s.shapeCommand.sbi.quiet
      wake := s.shapeCommand.sbi.wake } := by
    rw [State.shapeCommand_sbi_of_idle h, State.scheduled_sbi]
  refine ⟨fun h => ?_, fun h hc => ?_, fun h hc hi => ?_, fun h hc hi hlt => ?_, fun h hc hi hge => ?_, fun h => ?_⟩
  · have hschedule : s.schedule.1 = false := congrArg Prod.fst (hnever h)
    rw [hidle hschedule]
    exact ⟨rfl, rfl, rfl, rfl⟩
  · have hschedule : s.schedule = (true, 0) := hatChange h (hchanged.2 hc)
    rw [hseq, hservice, hschedule]
    exact ⟨rfl, rfl⟩
  · have hschedule : s.schedule.1 = true := congrArg Prod.fst (hone h (hunchanged.2 hc) (hinterval ▸ hi))
    rw [hseq, if_pos hschedule]
  · have hschedule : s.schedule = (false, s.sbi.service + 1) := (hsixteen h (hunchanged.2 hc) (hinterval ▸ hi)).trans (if_pos hlt)
    rw [hseq, hservice, hidle (congrArg Prod.fst hschedule), hschedule]
    exact ⟨rfl, rfl, rfl, rfl⟩
  · have hschedule : s.schedule = (true, 0) := (hsixteen h (hunchanged.2 hc) (hinterval ▸ hi)).trans (if_neg (by omega))
    rw [hseq, hservice, hschedule]
    exact ⟨rfl, rfl⟩
  · have hschedule : s.schedule.1 = false := by
      rw [← Bool.not_eq_true]
      intro hdue
      rw [hseq, if_pos hdue] at h
      exact absurd h (by simp)
    refine ⟨hidle hschedule, ?_⟩
    rw [State.shapeCommand_hu, if_neg (by rw [hschedule]; simp)]

/-! ## The interval (R35 to R38) -/

theorem State.ownActive_iff (s : State) : s.ownActive = true ↔ s.ownDemand ≠ 0 ∨ s.wsu.sample.filtered ≠ 0 := by
  simp [State.ownActive]

theorem State.peersQuiet_iff (s : State) : s.peersQuiet = true ↔ ∀ e ∈ s.pt.view.entries, e.cls = .fresh →
    ∀ r, e.record = some r → r.frame.demand = 0 ∧ r.frame.axleSpeed = 0 := by
  simp only [State.peersQuiet, List.all_eq_true, Bool.or_eq_true, decide_eq_true_eq, Option.all_eq_true, Bool.and_eq_true, ne_eq,
    ← imp_iff_not_or]

theorem State.nextQuiet_eq (s : State) : s.nextQuiet = if s.ownActive = false ∧ s.peersQuiet = true then
    min (max 50 (min 4000 (s.word 9).toNat)) (s.sbi.quiet + 1) else 0 := by
  have hq : s.param Idx.quietCount = max 50 (min 4000 (s.word 9).toNat) := s.param_eq rfl rfl
  rw [State.nextQuiet, growTo, hq]
  simp only [Bool.and_eq_true, Bool.not_eq_true']

/-- A publication in RUN at interval 16 wakes, or stays quiet (R35, R37). -/
theorem State.quietStep_of_sixteen {s : State} (h : s.sbi.interval = .sixteen) :
    s.quietStep = if s.ownActive = true ∨ s.sbi.wake = true then { s.sbi with interval := .one, quiet := 0, wake := false }
      else { s.sbi with quiet := s.nextQuiet } := by
  simp only [State.quietStep, h, Bool.or_eq_true]

/-- A publication in RUN at interval 1 takes a wake, or counts towards the quiet interval (R35, R36). -/
theorem State.quietStep_of_one {s : State} (h : s.sbi.interval = .one) :
    s.quietStep = if s.sbi.wake = true then { s.sbi with quiet := 0, wake := false }
      else { s.sbi with quiet := s.nextQuiet, interval := if s.param Idx.quietCount ≤ s.nextQuiet then .sixteen else .one } := by
  simp only [State.quietStep, h]

theorem State.steppedBus_of_run {s : State} (h : s.ctl.state = .run) : s.steppedBus = s.quietStep := by
  have htested : s.tested = { s with csh := s.shaped, stage := .none } := by
    simp only [State.tested, State.exitTests, h]
  rw [State.steppedBus, htested]
  unfold State.intervalStep
  dsimp only
  rw [h]
  rfl

/-- Outside RUN the interval is 1, and 16 in STOPPED (R35, R36, R38). -/
theorem State.steppedBus_of_not_run {s : State} (h : s.ctl.state ≠ .run) : s.steppedBus = { s.sbi with
    interval := if s.tested.ctl.state = .stopped then .sixteen else .one, quiet := 0, wake := s.tested.sbi.wake } := by
  rw [s.steppedBus_frame, State.steppedBus, State.intervalStep]
  cases s.tested.ctl.state
  case run => rw [if_neg h, if_neg (by decide)]
  all_goals rfl

/-- The wake request is cleared by the exit tests exactly where they change the state (R38). -/
theorem State.tested_wake (s : State) :
    s.tested.sbi.wake = if s.tested.ctl.state = s.ctl.state then s.sbi.wake else false := by
  rcases s.tested_cases with ⟨hs, -, h⟩ | ⟨hs, -, h⟩ | ⟨hs, -, h⟩ | ⟨hs, -, h⟩ <;> rw [h] <;> simp [hs]

/-- Settles O45. -/
theorem quietOperation : Obligations.QuietOperation := by
  intro s t ha hs hexec q own awake still
  rw [exec_commandShaping ha hs] at hexec
  cases hexec
  obtain ⟨hinterval, hquiet, hwake, -, -⟩ := s.shapeCommand_sbi_fields
  have hq : s.param Idx.quietCount = q := s.param_eq rfl rfl
  have hawake : s.ownActive = true ↔ awake := by
    rw [s.ownActive_iff, s.ownDemand_eq]
  have hstill : (s.ownActive = false ∧ s.peersQuiet = true) ↔ still := by
    rw [← Bool.not_eq_true, hawake, s.peersQuiet_iff]
  have hnext : s.nextQuiet = if still then min q (s.sbi.quiet + 1) else 0 := by
    rw [s.nextQuiet_eq]
    exact if_congr hstill rfl rfl
  rw [hinterval, hquiet, hwake, s.shapeCommand_ctl]
  refine ⟨fun hrun hi h => ?_, fun hrun hi ha hw => ?_, fun hrun hi hw => ?_, fun hrun hi hw h => ?_, fun hrun hi hw h => ?_,
    fun hrun => ?_, fun hne => ?_, fun hrun => ?_, fun hrun heq => ?_⟩
  · rw [State.steppedBus_of_run hrun, State.quietStep_of_sixteen hi, if_pos (by rwa [hawake])]
    exact ⟨rfl, rfl, rfl⟩
  · rw [State.steppedBus_of_run hrun, State.quietStep_of_sixteen hi, if_neg (by rw [hawake, hw]; simpa using ha), hnext]
    exact ⟨hi, hw, fun h => if_pos h, fun h => if_neg h⟩
  · rw [State.steppedBus_of_run hrun, State.quietStep_of_one hi, if_pos hw]
    exact ⟨hi, rfl, rfl⟩
  · rw [State.steppedBus_of_run hrun, State.quietStep_of_one hi, if_neg (by rw [hw]; decide), hnext, hq, if_pos h]
    refine ⟨rfl, ?_⟩
    have hmin : q ≤ min q (s.sbi.quiet + 1) ↔ q ≤ s.sbi.quiet + 1 := by rw [le_min_iff, and_iff_right (le_refl q)]
    exact if_congr hmin rfl rfl
  · rw [State.steppedBus_of_run hrun, State.quietStep_of_one hi, if_neg (by rw [hw]; decide), hnext, hq, if_neg h]
    exact ⟨rfl, if_neg (Nat.not_le.2 (lt_of_lt_of_le (by decide) (le_max_left 50 _)))⟩
  · rw [State.steppedBus_of_not_run hrun]
    exact ⟨rfl, rfl⟩
  · have hrun : s.ctl.state ≠ .run := by
      intro hrun
      rcases s.tested_cases with ⟨h, -, -⟩ | ⟨h, -, -⟩ | ⟨h, -, -⟩ | ⟨-, -, h⟩
      · exact absurd (hrun.symm.trans h) (by decide)
      · exact absurd (hrun.symm.trans h) (by decide)
      · exact absurd (hrun.symm.trans h) (by decide)
      · exact hne (by rw [h])
    rw [State.steppedBus_of_not_run hrun]
    exact s.tested_wake.trans (if_neg hne)
  · rw [State.steppedBus_of_run hrun]
    cases hi : s.sbi.interval with
    | one =>
      rw [State.quietStep_of_one hi]
      split
      next => rfl
      next hw => exact Bool.not_eq_true _ ▸ hw
    | sixteen =>
      rw [State.quietStep_of_sixteen hi]
      split
      next => rfl
      next hw => exact Bool.eq_false_iff.2 fun h => hw (.inr h)
  · rw [State.steppedBus_of_not_run hrun]
    exact s.tested_wake.trans (if_pos heq)

/-! ## The share frame (R20, R26 to R28, R147) -/

/-- The state in which the frame is built, block by block: it has the state and the torque after the publication. -/
theorem State.scheduled_eq (s : State) : s.scheduled = { s with
    csh := s.shaped, stage := .none
    ctl := { s.ctl with state := s.tested.ctl.state, listenCounter := s.tested.ctl.listenCounter }
    sbi := { s.sbi with
      interval := s.steppedBus.interval, quiet := s.steppedBus.quiet, wake := s.steppedBus.wake, service := s.schedule.2 } } := by
  unfold State.scheduled
  rw [s.steppedBus_frame, s.tested_frame]

/-- The announced capacities in each state (R28). -/
theorem State.capacities_spec (s : State) :
    (s.ctl.state = .config ∨ s.ctl.state = .listen ∨ s.ctl.state = .stopped → s.capacities = (0, 0))
    ∧ (s.ctl.state = .run → s.capacities =
        (if s.slu.sign = .positive then min s.pt.view.driveLimit s.slu.tl else s.pt.view.driveLimit,
          if s.slu.sign = .negative then min s.pt.view.regenLimit s.slu.tl else s.pt.view.regenLimit))
    ∧ (s.ctl.state = .stopping → s.capacities =
        (if 0 < s.csh.applied then min s.pt.view.driveLimit s.csh.applied.natAbs else 0,
          if s.csh.applied < 0 then min s.pt.view.regenLimit s.csh.applied.natAbs else 0)) := by
  refine ⟨fun h => ?_, fun h => ?_, fun h => ?_⟩
  · rcases h with h | h | h <;> simp only [State.capacities, h]
  · simp only [State.capacities, h]
  · simp only [State.capacities, h]

theorem find?_originator_iff {l : List EchoDue} (hl : l.Pairwise (fun a b => a.originator ≠ b.originator)) (n : Station)
    (e : EchoDue) : l.find? (fun e => e.originator == n) = some e ↔ e ∈ l ∧ e.originator = n := by
  constructor
  · intro h
    exact ⟨List.mem_of_find?_eq_some h, by simpa using List.find?_some h⟩
  · rintro ⟨he, rfl⟩
    induction l with
    | nil => exact absurd he List.not_mem_nil
    | cons x l ih =>
      obtain ⟨hx, hl⟩ := List.pairwise_cons.1 hl
      rcases List.mem_cons.1 he with rfl | he
      · simp
      · rw [List.find?_cons_of_neg (by simpa using hx e he)]
        exact ih hl he

/-- The echoes of a frame are in ascending originator (R147). -/
theorem State.echoesToSend_sorted (s : State) : s.echoesToSend.Pairwise (fun a b => a.originator < b.originator) := by
  have horiginator (n : Station) (x : EchoEntry) (h : ((s.hou.echoDue.find? (fun e => e.originator == n)).bind fun e =>
      if e.stage = .due ∧ (s.pt.recordOf n).any (fun r => decide (r.frame.tag = e.tag)) then some ⟨n, e.tag⟩ else none)
      = some x) : x.originator = n := by
    obtain ⟨e, -, he⟩ := Option.bind_eq_some_iff.1 h
    split at he
    · cases he
      rfl
    · exact absurd he (by simp)
  refine List.Pairwise.filterMap _ (fun a b hab x hx y hy => ?_) allStations_sorted
  rw [horiginator a x hx, horiginator b y hy]
  exact hab

/-- An echo is sent for a Due entry whose tag its originator still shows (R147). -/
theorem State.mem_echoesToSend {s : State} (h : s.hou.echoDue.Pairwise (fun a b => a.originator ≠ b.originator)) (n : Station)
    (tag : Tag) : ⟨n, tag⟩ ∈ s.echoesToSend ↔ ⟨n, tag, .due⟩ ∈ s.hou.echoDue
      ∧ ∃ r, s.pt.recordOf n = some r ∧ r.frame.tag = tag := by
  simp only [State.echoesToSend, List.mem_filterMap, Option.bind_eq_some_iff, find?_originator_iff h, Option.any_eq_true,
    decide_eq_true_eq, Option.ite_none_right_eq_some]
  constructor
  · rintro ⟨m, -, ⟨o, g, stage⟩, ⟨he, rfl⟩, ⟨rfl, r, hr, hg⟩, heq⟩
    cases heq
    exact ⟨he, r, hr, hg⟩
  · rintro ⟨he, r, hr, hg⟩
    exact ⟨n, mem_allStations n, ⟨n, tag, .due⟩, ⟨he, rfl⟩, ⟨rfl, r, hr, hg⟩, rfl⟩

theorem ShareBus.slotFrame_frame (b : ShareBus) (f : ShareFrame) :
    b.slotFrame f = { f with health := (b.slotFrame f).health } := by
  unfold ShareBus.slotFrame
  cases b.slot <;> rfl

/-- The frame of this publication as it leaves the slot's rule. -/
def State.publishedFrame (s : State) : ShareFrame := s.sbi.slotFrame s.scheduled.builtFrame

theorem State.publishedFrame_eq (s : State) : s.publishedFrame = { s.scheduled.builtFrame with
    health := s.publishedFrame.health } := ShareBus.slotFrame_frame _ _

/-- Where the frame goes: onto a free bus, or into the slot (R20, R21). -/
theorem State.shapeCommand_sends {s : State} (h : s.schedule.1 = true) :
    (s.sbi.phase = .idle ∧ s.sbi.inFlight = none → s.shapeCommand.sbi.slot = none
      ∧ s.shapeCommand.sbi.inFlight = some s.publishedFrame ∧ s.shapeCommand.sbi.phase = .driving)
    ∧ (¬(s.sbi.phase = .idle ∧ s.sbi.inFlight = none) → s.shapeCommand.sbi.slot = some s.publishedFrame
      ∧ s.shapeCommand.sbi.inFlight = s.sbi.inFlight ∧ s.shapeCommand.sbi.phase = s.sbi.phase) := by
  have hframe : s.scheduled.sbi.slotFrame s.scheduled.builtFrame = s.publishedFrame := by
    rw [s.scheduled_sbi]
    rfl
  have hfree : s.scheduled.sbi.free = true ↔ s.sbi.phase = .idle ∧ s.sbi.inFlight = none := by
    rw [s.scheduled_sbi, ShareBus.free_iff]
  rw [State.shapeCommand_sbi_of_due h, ← hfree]
  refine ⟨fun hf => ?_, fun hf => ?_⟩
  · rw [State.buildFrame_of_free hf, hframe]
    exact ⟨rfl, rfl, rfl⟩
  · rw [State.buildFrame_of_busy (Bool.eq_false_iff.2 hf), hframe, s.scheduled_sbi]
    exact ⟨rfl, rfl, rfl⟩

/-- The health field: the latch, and what a displaced frame gives on (R20, R29). -/
theorem State.publishedFrame_health (s : State) : (s.sbi.slot = none → s.publishedFrame.health = s.sbi.latch)
    ∧ ∀ old, s.sbi.slot = some old → s.publishedFrame.health
      = ⟨s.sbi.latch.error || old.health.error, s.sbi.latch.warning || old.health.warning⟩ := by
  have hlatch : s.scheduled.builtFrame.health = s.sbi.latch := by
    show s.scheduled.sbi.latch = s.sbi.latch
    rw [s.scheduled_sbi]
  refine ⟨fun h => ?_, fun old h => ?_⟩
  · rw [State.publishedFrame, ShareBus.slotFrame, h]
    exact hlatch
  · rw [State.publishedFrame, ShareBus.slotFrame, h, ← hlatch]
    rfl

/-- Settles O46. -/
theorem builtFrameCarriesThePublication : Obligations.BuiltFrameCarriesThePublication := by
  intro s t ha hs hexec hseq starts
  rw [exec_commandShaping ha hs] at hexec
  cases hexec
  have hdue : s.schedule.1 = true := by
    rw [← Bool.not_eq_false]
    intro hidle
    obtain ⟨-, -, -, -, hseqAfter⟩ := s.shapeCommand_sbi_fields
    rw [hseqAfter, if_neg (by rw [hidle]; decide)] at hseq
    exact absurd hseq (by simp)
  have hsbi := State.shapeCommand_sbi_of_due hdue
  have hhu := s.shapeCommand_hu
  have hstate : s.tested.ctl.state = s.shapeCommand.ctl.state := congrArg Control.state s.shapeCommand_ctl.symm
  have hcapacities : s.scheduled.capacities = s.shapeCommand.capacities := by
    rw [s.scheduled_eq, s.shapeCommand_frame, ← hstate]
    rfl
  obtain ⟨hrest, hrun, hstopping⟩ := s.shapeCommand.capacities_spec
  obtain ⟨hinterval, -, -, -, -⟩ := s.shapeCommand_sbi_fields
  obtain ⟨hstarts, hwaits⟩ := State.shapeCommand_sends hdue
  obtain ⟨hfresh, hcombined⟩ := s.publishedFrame_health
  have hblocks : s.shapeCommand.pt = s.pt ∧ s.shapeCommand.slu = s.slu := by
    rw [s.shapeCommand_frame]
    exact ⟨rfl, rfl⟩
  rw [hblocks.1, hblocks.2] at hrun
  rw [hblocks.1] at hstopping
  have hframe : (s.publishedFrame.driveCapacity, s.publishedFrame.regenCapacity) = s.shapeCommand.capacities := by
    rw [s.publishedFrame_eq, ← hcapacities]
    rfl
  have hdrive : s.publishedFrame.driveCapacity = s.shapeCommand.capacities.1 := congrArg Prod.fst hframe
  have hregen : s.publishedFrame.regenCapacity = s.shapeCommand.capacities.2 := congrArg Prod.snd hframe
  have happlied : s.publishedFrame.applied = s.shapeCommand.csh.applied := by
    rw [s.publishedFrame_eq, s.scheduled_eq, s.shapeCommand_csh]
    rfl
  have hextension : s.publishedFrame.digest = if s.shapeCommand.ctl.state = .listen ∨ s.sbi.seq.toNat % 16 = 0 then
      some (s.ps.digest.getD 0) else none := by
    rw [s.publishedFrame_eq, s.scheduled_eq, ← hstate]
    show (if (decide (s.tested.ctl.state = .listen) || decide (s.sbi.seq.toNat % 16 = 0)) = true then _ else none) = _
    simp only [Bool.or_eq_true, decide_eq_true_eq]
  have hechoes : s.publishedFrame.echoes = s.echoesToSend := by
    rw [s.publishedFrame_eq, s.scheduled_eq]
    rfl
  have hrise : s.publishedFrame.riseStep = min 255 (s.param Idx.riseStep * s.param Idx.ratio / 1024 / 4) := by
    rw [s.publishedFrame_eq, s.scheduled_eq]
    rfl
  refine ⟨?_, ?_, fun h => ?_, fun h => ?_, s.publishedFrame, hstarts, hwaits, hfresh, hcombined, ?_⟩
  · rw [hsbi, State.buildFrame_sbi_frame]
  · rw [hsbi, State.buildFrame_sbi_frame, s.scheduled_sbi]
  · rw [hhu, if_neg (by simp [h])]
  · rw [hhu, if_pos ⟨hdue, h⟩]
    rfl
  refine ⟨?_, ?_, ?_, ?_, ?_, ?_, ?_, ?_, ?_, happlied, hframe, fun h => ?_, fun h => ?_, fun h => ?_, ?_, ?_, fun h d hd => ?_,
    fun h => ?_, ?_, fun h n tag => ?_⟩
  · rw [s.publishedFrame_eq, s.scheduled_eq]
    rfl
  · rw [s.publishedFrame_eq, s.scheduled_eq]
    rfl
  · rw [s.publishedFrame_eq, s.scheduled_eq, ← hstate]
    rfl
  · rw [s.publishedFrame_eq, s.scheduled_eq, ← hstate]
    rfl
  · rw [s.publishedFrame_eq, s.scheduled_eq, hinterval]
    rfl
  · rw [s.publishedFrame_eq, s.scheduled_eq]
    rfl
  · rw [s.publishedFrame_eq, s.scheduled_eq]
    rfl
  · rw [s.publishedFrame_eq, s.scheduled_eq]
    show (s.hou.record.map (fun r => r.tag)).getD 0 = _
    cases s.hou.record <;> rfl
  · rw [s.publishedFrame_eq, s.scheduled_eq]
    exact s.ownDemand_eq
  · rw [hdrive, hregen, hrest (.inr h)]
    exact ⟨rfl, rfl⟩
  · rw [hdrive, hregen, hrun h]
    exact ⟨rfl, rfl⟩
  · rw [hdrive, hregen, hstopping h, happlied]
    exact ⟨rfl, rfl⟩
  · rw [s.publishedFrame_eq, s.scheduled_eq]
    rfl
  · rw [hrise, s.param_riseStep, s.param_ratio]
  · rw [hextension, if_pos h, hd]
    rfl
  · rw [hextension, if_neg h]
  · rw [hechoes]
    exact s.echoesToSend_sorted
  · rw [hechoes]
    exact State.mem_echoesToSend h n tag

/-! ## The inverter frame and the snapshot (R166, R167, R183) -/

/-- The state after the exit tests and the share bus: what the inverter frame and the snapshot are taken from. -/
theorem State.stepped_eq (s : State) : s.tested.shareBusStep s.ctl.state = { s with
    csh := s.shaped, stage := .none
    ctl := { s.ctl with state := s.shapeCommand.ctl.state, listenCounter := s.shapeCommand.ctl.listenCounter }
    sbi := s.shapeCommand.sbi, hu := (s.tested.shareBusStep s.ctl.state).hu } := by
  rw [State.shareBusStep_frame, s.shapeCommand_sbi, s.shapeCommand_ctl, s.tested_frame]

theorem State.shapeCommand_icl (s : State) : s.shapeCommand.icl = {
    seq := s.icl.seq + 1
    line := some (inverterFrame s.own s.shapeCommand.ctl.state s.icl.seq s.shapeCommand.ctl.state.enable s.shaped.command) } := by
  have hicl : s.shapeCommand.icl = (s.tested.shareBusStep s.ctl.state).sendInverter.icl := by
    rw [State.shapeCommand_eq]
    dsimp only
    split <;> rfl
  rw [hicl, s.stepped_eq]
  rfl

theorem State.shapeCommand_snapshot (s : State) : s.shapeCommand.lp.snapshot = s.shapeCommand.snapshotWords := by
  have hlp : s.shapeCommand.lp.snapshot = (s.tested.shareBusStep s.ctl.state).snapshotWords := by
    rw [State.shapeCommand_eq]
    dsimp only
    split <;> rfl
  rw [hlp, s.stepped_eq]
  conv_rhs => rw [s.shapeCommand_frame]
  rfl

theorem State.peersReady_iff (s : State) : s.peersReady = true ↔
    ∀ e ∈ s.pt.view.entries, e.cls = .fresh ∧ ∃ r, e.record = some r ∧ r.digest ≠ none := by
  simp only [State.peersReady, List.all_eq_true, Bool.and_eq_true, decide_eq_true_eq, Option.any_eq_true, ne_eq,
    Option.isSome_iff_ne_none]

theorem State.listenEnds_iff (s : State) : s.listenEnds ↔
    (∀ e ∈ s.pt.view.entries, e.cls = .fresh ∧ ∃ r, e.record = some r ∧ r.digest ≠ none)
    ∨ max 10 (min 250 (s.word 8).toNat) ≤ s.ctl.listenCounter + 1 := by
  have hparam : s.param Idx.lListen = max 10 (min 250 (s.word 8).toNat) := s.param_eq rfl rfl
  rw [State.listenEnds, s.peersReady_iff, hparam]

/-- Station control after the exit tests, state by state (R11, R13). -/
theorem State.tested_ctl_spec (s : State) :
    s.tested.ctl = { s.ctl with
      state := s.tested.ctl.state
      listenCounter := if s.ctl.state = .listen then s.ctl.listenCounter + 1 else s.ctl.listenCounter }
    ∧ (s.ctl.state = .listen → s.listenEnds → s.tested.ctl.state = .run)
    ∧ (s.ctl.state = .listen → ¬s.listenEnds → s.tested.ctl.state = .listen)
    ∧ (s.ctl.state = .stopping → s.shaped.command = 0 → s.tested.ctl.state = .stopped)
    ∧ (s.ctl.state = .stopping → s.shaped.command ≠ 0 → s.tested.ctl.state = .stopping)
    ∧ (s.ctl.state = .config ∨ s.ctl.state = .run ∨ s.ctl.state = .stopped → s.tested.ctl.state = s.ctl.state) := by
  rcases s.tested_cases with ⟨hs, hends, h⟩ | ⟨hs, hends, h⟩ | ⟨hs, hcommand, h⟩ | ⟨hstopping, hlisten, h⟩
  · rw [h]
    simp [hs, hends]
  · rw [h]
    simp [hs, hends]
  · rw [h]
    simp [hs, hcommand]
  · rw [h]
    refine ⟨by simp [hlisten], fun hs => absurd hs hlisten, fun hs => absurd hs hlisten, fun hs h0 => absurd h0 (hstopping hs),
      fun hs _ => hs, fun _ => rfl⟩

/-- The capacities in one expression (R28). -/
theorem State.capacities_eq (s : State) : s.capacities =
    ((if s.ctl.state = .run then (if s.slu.sign = .positive then min s.pt.view.driveLimit s.slu.tl else s.pt.view.driveLimit)
      else if s.ctl.state = .stopping ∧ 0 < s.csh.applied then min s.pt.view.driveLimit s.csh.applied.natAbs else 0),
    (if s.ctl.state = .run then (if s.slu.sign = .negative then min s.pt.view.regenLimit s.slu.tl else s.pt.view.regenLimit)
      else if s.ctl.state = .stopping ∧ s.csh.applied < 0 then min s.pt.view.regenLimit s.csh.applied.natAbs else 0)) := by
  unfold State.capacities
  cases s.ctl.state <;> simp

/-- The snapshot's words, spelled out (R183, R201). -/
theorem State.snapshotWords_toList (s : State) : s.snapshotWords.toList = [s.periodCount,
    BitVec.ofNat 16 (s.ctl.state.code * 8192 + (if s.ctl.state = .run then s.ale.selection.basis.code else 0) * 2048),
    BitVec.ofInt 16 s.ale.demand, BitVec.ofInt 16 s.ale.aSelf, BitVec.ofInt 16 s.csh.command, BitVec.ofInt 16 s.csh.applied,
    BitVec.ofNat 16 s.capacities.1, BitVec.ofNat 16 s.capacities.2, BitVec.ofNat 16 s.slu.tl,
    BitVec.ofNat 16 s.wsu.sample.filtered, BitVec.ofNat 16 (s.slu.reference / 16), BitVec.ofInt 16 s.slu.ratio,
    BitVec.ofNat 16 (s.ale.selection.pattern * 256 + s.ale.selection.code),
    (s.hou.published.map natWord).getD 0xFFFF, BitVec.ofNat 16 s.ale.shortfall,
    BitVec.ofNat 16 (maskOf s.ale.participants * 4096 + maskOf s.ale.reserved * 256 + s.csh.outcome.code * 32
      + s.csh.peakMark.toNat * 16 + s.csh.cutMark.toNat * 8)] := by
  have hbasis : s.reportedBasis.code = if s.ctl.state = .run then s.ale.selection.basis.code else 0 := by
    rw [State.reportedBasis]
    split <;> rfl
  simp only [State.snapshotWords, stateBasisWord, hbasis]
  rfl

/-- Settles O42. -/
theorem publicationReportsTheStateAfterIt : Obligations.PublicationReportsTheStateAfterIt := by
  intro s ha hs
  obtain ⟨hctl, hready, hwaiting, hstopped, hmoving, hstands⟩ := s.tested_ctl_spec
  rw [← s.shapeCommand_ctl] at hctl hready hwaiting hstopped hmoving hstands
  rw [← s.shapeCommand_csh] at hstopped hmoving
  have hframe := s.shapeCommand_frame
  refine ⟨s.shapeCommand, exec_commandShaping ha hs, ?_, ⟨hctl, ?_, ?_, hstopped, hmoving, hstands⟩, fun h => ?_, ?_, ?_, ?_, rfl, rfl,
    rfl, fun l k hl => maskOf_testBit hl k, fun h => ?_, fun h => ?_⟩
  · have hctl' := congrArg State.ctl hframe
    dsimp only at hctl'
    rw [← s.shapeCommand_csh, ← hctl'] at hframe
    exact hframe
  · rwa [← s.listenEnds_iff]
  · rwa [← s.listenEnds_iff]
  · rw [s.shapeCommand_csh, State.shaped_of_resting h]
    rfl
  · rw [s.shapeCommand_icl]
  · have henable : BitVec.ofNat 8 s.shapeCommand.ctl.state.enable.toNat
        = if s.shapeCommand.ctl.state = .run ∨ s.shapeCommand.ctl.state = .stopping then (1 : Byte) else 0 := by
      cases s.shapeCommand.ctl.state <;> rfl
    rw [s.shapeCommand_icl, ← s.shapeCommand_csh]
    dsimp only
    rw [inverterFrame, henable]
    rfl
  · have hale : s.shapeCommand.ale = s.ale := of_frame State.ale hframe rfl
    have hslu : s.shapeCommand.slu = s.slu := of_frame State.slu hframe rfl
    have hpt : s.shapeCommand.pt = s.pt := of_frame State.pt hframe rfl
    have hwsu : s.shapeCommand.wsu = s.wsu := of_frame State.wsu hframe rfl
    have hhou : s.shapeCommand.hou = s.hou := of_frame State.hou hframe rfl
    have hcount : s.shapeCommand.periodCount = s.periodCount := of_frame State.periodCount hframe rfl
    have hcapacities := s.shapeCommand.capacities_eq
    rw [hslu, hpt] at hcapacities
    rw [s.shapeCommand_snapshot, State.snapshotWords_toList, hcapacities, hale, hslu, hwsu, hhou, hcount]
    cases s.hou.published <;> rfl
  · have hmarks : s.marksSplit = true := by rw [s.marksSplit_eq, decide_eq_true h]
    rw [s.shapeCommand_hu, hmarks]
    exact ⟨Bool.or_true _, rfl⟩
  · have hmarks : s.marksSplit = false := by
      rw [s.marksSplit_eq]
      exact decide_eq_false (by omega)
    rw [s.shapeCommand_hu, hmarks]
    dsimp only
    split
    · exact ⟨Bool.or_false _, rfl⟩
    · exact ⟨Bool.or_false _, rfl⟩

/-! ## The inverter line (R165, R167) -/

/-- A clearing command leaves the sequence 0, unless it is a release without supply (R4, R5; log 7). -/
theorem effect_seq_of_clears {c : Instr} (hc : clears c = true) (s : State)
    (h : ∀ stn1 stn0, c = .rstnRelease stn1 stn0 → s.supplyValid = true) : (effect c s).icl.seq = 0 := by
  cases c with
  | rstnRelease stn1 stn0 =>
    have hrelease : effect (.rstnRelease stn1 stn0) s = State.endOfReset { s with rstnHigh := true } stn1 stn0 :=
      if_pos (h _ _ rfl)
    rw [hrelease]
    rfl
  | powerOnReset _ _ | rstnAssert | supplyOrClockInvalid | resetStation _ _ => rfl
  | _ => simp [clears, supplyEvent] at hc

/-- Only a publication and the resets change the sequence (R167). -/
theorem effect_seq (c : Instr) (s : State) : clears c = true ∨ c = .commandShaping ∨ (effect c s).icl.seq = s.icl.seq := by
  rcases effect_cases c s with hc | h | ⟨-, -, words, p, u, h⟩ | ⟨arg, words, rfl⟩ | ⟨arg, words, rfl⟩ | ⟨rfl, h⟩ | ⟨rfl, h⟩
    | ⟨rfl, -⟩ | ⟨bytes, rfl, -, h⟩
  · exact .inl hc
  · exact .inr (.inr h.seq)
  · exact .inr (.inr (by rw [h]))
  · exact .inr (.inr (of_frame (·.icl.seq) (State.takeStart_frame (s.deliver (1 + words.length))) rfl))
  · exact .inr (.inr (of_frame (·.icl.seq) (State.takeStop_frame (s.deliver (1 + words.length))) rfl))
  · exact .inr (.inr (h ▸ of_frame (·.icl.seq) s.latchView_frame rfl))
  · exact .inr (.inr (h ▸ of_frame (·.icl.seq) s.stepHandover_frame rfl))
  · exact .inr (.inl rfl)
  · exact .inr (.inr (h ▸ of_frame (·.icl.seq) (s.receiveFrame_frame bytes) rfl))

/-- The level of ICLTX in a byte of the frame on the line: start bit, data bits, stop bit (R165, R200). -/
theorem InverterLine.levelAt_of_line {l : InverterLine} {bytes : List Byte} (h : l.line = some bytes) {k j : Nat} {x : Byte}
    (hk : bytes[k]? = some x) (hj : j < 10) : l.levelAt (10 * k + j) = (inverterByteLevels x).getD j true := by
  have hlevels : l.levels = bytes.flatMap inverterByteLevels := by
    rw [InverterLine.levels, h]
  rw [InverterLine.levelAt, hlevels, List.getD_eq_getElem?_getD, List.getD_eq_getElem?_getD,
    getElem?_flatMap_of_length inverterByteLevels_length hk hj]

theorem InverterLine.levelAt_after {l : InverterLine} {bytes : List Byte} (h : l.line = some bytes) {n : Nat}
    (hn : 10 * bytes.length ≤ n) : l.levelAt n = true := by
  have hlength : l.levels.length = 10 * bytes.length := by
    rw [InverterLine.levels, h]
    simp [List.length_flatMap, Nat.mul_comm]
  exact List.getD_eq_default _ _ (hlength ▸ hn)

/-- Settles O47. -/
theorem inverterSequenceNumbersItsFrames : Obligations.InverterSequenceNumbersItsFrames := by
  intro c s t hexec
  refine ⟨?_, fun h => ?_, fun h => ?_, fun h n => ?_, fun bytes h => ⟨fun k x hx => ⟨?_, ?_, fun j hj => ?_⟩, fun n hn => ?_⟩⟩
  · rintro rfl ha hs
    rw [exec_commandShaping ha hs] at hexec
    cases hexec
    rw [s.shapeCommand_icl]
    exact ⟨rfl, _, rfl, rfl⟩
  · have heffect : t = effect c s ∧ clears c = true ∧ ∀ stn1 stn0, c = .rstnRelease stn1 stn0 → s.supplyValid = true := by
      have hevent (hc : supplyEvent c = true) : t = effect c s :=
        (Host.Outcome.next.inj ((exec_of_supplyEvent hc s).symm.trans hexec)).symm
      rcases h with rfl | rfl | ⟨stn1, stn0, rfl⟩ | ⟨stn1, stn0, rfl, hsupply⟩ | ⟨arg, words, rfl, ha⟩
      · exact ⟨hevent rfl, rfl, nofun⟩
      · exact ⟨hevent rfl, rfl, nofun⟩
      · exact ⟨hevent rfl, rfl, nofun⟩
      · exact ⟨hevent rfl, rfl, fun _ _ _ => hsupply⟩
      · exact ⟨eq_effect_of_active ha hexec, rfl, nofun⟩
    obtain ⟨rfl, hclears, hsupply⟩ := heffect
    exact effect_seq_of_clears hclears s hsupply
  · rcases exec_cases hexec with rfl | rfl
    · exact absurd rfl h
    · rcases effect_seq c s with hclears | hshaping | hstands
      · cases c with
        | resetStation arg words => exact .inr (.inr ⟨arg, words, rfl⟩)
        | _ => exact .inr (.inl hclears)
      · exact .inl hshaping
      · exact absurd hstands h
  · rw [InverterLine.levelAt, InverterLine.levels, h]
    rfl
  · exact InverterLine.levelAt_of_line h hx (j := 0) (by decide)
  · exact InverterLine.levelAt_of_line h hx (j := 9) (by decide)
  · rw [Nat.add_assoc, InverterLine.levelAt_of_line h hx (by omega)]
    interval_cases j <;> rfl
  · exact InverterLine.levelAt_after h hn

end Sys2Proof.Machine
end

section
/-! PROOFS. The codes and the bits of a transaction on the port (09_local_port_and_parameter_store.md, 11_formats.md). -/

namespace Sys2Proof

/-! ## Codes (R172, R201) -/

theorem decodeCommand_of_unknown {code : Byte} (h : code ∉ commandCodes) (arg : Byte) (words : List Word) :
    decodeCommand code arg words = .unknownCommand code arg words := by
  simp only [commandCodes, List.mem_cons, List.not_mem_nil, or_false, not_or] at h
  obtain ⟨h01, h02, h03, h10, h11, h1F, h20, h21, h30, h31, h32, h33⟩ := h
  simp only [decodeCommand, h01, h02, h03, h10, h11, h1F, h20, h21, h30, h31, h32, h33, if_false]

/-- A transaction decodes to the command it was encoded from. -/
theorem decodeTransaction_of_encode {c : Instr} {ws : List Word} (hc : c.wellFormed = true)
    (h : encodeTransaction c = some ws) : decodeTransaction ws = c := by
  cases c with
  | unknownCommand code arg words =>
    cases h
    rw [decodeTransaction_commandWord]
    refine decodeCommand_of_unknown (fun hmem => ?_) arg words
    simp [Instr.wellFormed, hmem] at hc
  | setWindow arg words | writeWords arg words | readWords arg words | start arg words | stop arg words | resetStation arg words
  | setDemand arg words | setLimits arg words | readStatus arg words | readSnapshot arg words | readPeer arg words
  | readDiag arg words =>
    cases h
    exact decodeTransaction_commandWord _ _ _
  | incompleteTransaction =>
    cases h
    rfl
  | _ => simp [encodeTransaction] at h

theorem commandWord_getLsbD (code arg : Byte) {j : Nat} (hj : j < 8) :
    (commandWord code arg).getLsbD (8 + j) = code.getLsbD j ∧ (commandWord code arg).getLsbD j = arg.getLsbD j := by
  have hcode := code.isLt
  have harg := arg.isLt
  have hbit (i : Nat) : (commandWord code arg).getLsbD i = (code.toNat * 256 + arg.toNat).testBit i := by
    rw [← commandWord_toNat]
    rfl
  rw [hbit, hbit, show code.toNat * 256 + arg.toNat = 2 ^ 8 * code.toNat + arg.toNat by omega,
    Nat.testBit_two_pow_mul_add _ harg, Nat.testBit_two_pow_mul_add _ harg, if_neg (by omega), if_pos hj, Nat.add_sub_cancel_left]
  exact ⟨rfl, rfl⟩

/-! ## Bits (R170) -/

theorem bitsNumber_append (bits : List Bool) (b : Bool) : bitsNumber (bits ++ [b]) = 2 * bitsNumber bits + b.toNat := by
  simp [bitsNumber, List.foldl_append]

/-- The bits of the number that a list of bits spells, from the last one up. -/
theorem bitsNumber_testBit (bits : List Bool) (i : Nat) : (bitsNumber bits).testBit i = bits.reverse.getD i false := by
  induction bits using List.reverseRecOn generalizing i with
  | nil => simp [bitsNumber]
  | append_singleton bits b ih =>
    rw [bitsNumber_append, List.reverse_append]
    cases i with
    | zero => cases b <;> simp [Nat.testBit_zero, Nat.add_mod]
    | succ i =>
      rw [Nat.testBit_succ, show (2 * bitsNumber bits + b.toNat) / 2 = bitsNumber bits by cases b <;> simp; omega, ih]
      rfl

/-- The word of sixteen bits has them in order, bit 15 first. -/
theorem wordOfBits_getLsbD {block : List Bool} (h : block.length = 16) {j : Nat} (hj : j < 16) :
    block[j]? = some ((BitVec.ofNat 16 (bitsNumber block)).getLsbD (15 - j)) := by
  have hplace : block.reverse.getD (15 - j) false = block[j] := by
    rw [List.getD_eq_getElem _ _ (by rw [List.length_reverse]; omega), List.getElem_reverse]
    congr 1
    omega
  rw [BitVec.getLsbD_ofNat, decide_eq_true (by omega), Bool.true_and, bitsNumber_testBit, hplace]
  exact List.getElem?_eq_getElem _

theorem wordOfBits_wordBits (w : Word) : BitVec.ofNat 16 (bitsNumber (wordBits w)) = w := by
  refine BitVec.eq_of_getLsbD_eq fun i hi => ?_
  have hword := wordOfBits_getLsbD (Machine.wordBits_length w) (j := 15 - i) (by omega)
  rw [show 15 - (15 - i) = i by omega] at hword
  rw [← Option.some_inj, ← hword]
  simp [wordBits, show 15 - i < 16 by omega, show 15 - (15 - i) = i by omega]

/-- Sixteen bits are counted into a word, and the count starts again. -/
theorem collectWords_of_block {taken block : List Bool} (hlen : taken.length + block.length = 16) (hne : block ≠ [])
    (rest : List Bool) : collectWords taken (block ++ rest)
      = BitVec.ofNat 16 (bitsNumber (taken ++ block)) :: collectWords [] rest := by
  induction block generalizing taken with
  | nil => exact absurd rfl hne
  | cons b block ih =>
    rw [List.length_cons] at hlen
    cases block with
    | nil =>
      rw [List.length_nil] at hlen
      rw [List.cons_append, collectWords, if_neg (by omega), List.nil_append]
    | cons b' block =>
      rw [List.length_cons] at hlen
      rw [List.cons_append, collectWords, if_pos (by omega), ih (by simp; omega) (by simp), List.append_assoc, List.singleton_append]

/-- The bits after the last whole word are discarded. -/
theorem collectWords_of_short {taken bits : List Bool} (h : taken.length + bits.length < 16) : collectWords taken bits = [] := by
  induction bits generalizing taken with
  | nil => rfl
  | cons b bits ih =>
    rw [List.length_cons] at h
    rw [collectWords, if_pos (by omega), ih (by simp; omega)]

theorem transactionWords_of_block {block : List Bool} (h : block.length = 16) (rest : List Bool) :
    transactionWords (block ++ rest) = BitVec.ofNat 16 (bitsNumber block) :: transactionWords rest :=
  collectWords_of_block (taken := []) (by simpa using h) (by rintro rfl; simp at h) rest

theorem transactionWords_of_short {bits : List Bool} (h : bits.length < 16) : transactionWords bits = [] :=
  collectWords_of_short (by simpa using h)

/-- The bits of words, and fewer than sixteen beyond them, are counted into these words. -/
theorem transactionWords_wordBits (ws : List Word) {beyond : List Bool} (h : beyond.length < 16) :
    transactionWords (ws.flatMap wordBits ++ beyond) = ws := by
  induction ws with
  | nil => exact transactionWords_of_short h
  | cons w ws ih =>
    rw [List.flatMap_cons, List.append_assoc, transactionWords_of_block (Machine.wordBits_length w), wordOfBits_wordBits, ih]

/-- Word k has the sixteen bits from bit 16 k on. -/
theorem transactionWords_spec (bits : List Bool) : (transactionWords bits).length = bits.length / 16
    ∧ ∀ (k : Nat) (w : Word) (j : Nat), (transactionWords bits)[k]? = some w → j < 16 →
      bits[16 * k + j]? = some (w.getLsbD (15 - j)) := by
  induction hn : bits.length using Nat.strong_induction_on generalizing bits with
  | _ n ih =>
    rcases Nat.lt_or_ge bits.length 16 with hshort | hlong
    · rw [transactionWords_of_short hshort, ← hn, Nat.div_eq_of_lt hshort]
      simp
    · have hblock : (bits.take 16).length = 16 := by simp; omega
      obtain ⟨hlength, hwords⟩ := ih (bits.drop 16).length (by simp; omega) (bits.drop 16) rfl
      have hwhole : transactionWords bits
          = BitVec.ofNat 16 (bitsNumber (bits.take 16)) :: transactionWords (bits.drop 16) := by
        rw [← transactionWords_of_block hblock, List.take_append_drop]
      rw [hwhole]
      refine ⟨?_, fun k w j hk hj => ?_⟩
      · rw [List.length_cons, hlength, List.length_drop]
        omega
      · cases k with
        | zero =>
          rw [List.getElem?_cons_zero, Option.some.injEq] at hk
          rw [← hk, Nat.mul_zero, Nat.zero_add, ← wordOfBits_getLsbD hblock hj, List.getElem?_take_of_lt hj]
        | succ k =>
          rw [List.getElem?_cons_succ] at hk
          rw [← hwords k w j hk hj, List.getElem?_drop]
          congr 1
          omega

namespace Machine

/-- Settles O12. -/
theorem transactionRoundTrip : Obligations.TransactionRoundTrip := by
  refine ⟨fun c ws beyond hc h => ⟨decodeTransaction_of_encode hc h, fun hb => ?_⟩, fun arg words => ?_, rfl,
    fun code arg j hj => commandWord_getLsbD code arg hj, transactionWords_spec⟩
  · rw [decodeBits, transactionWords_wordBits ws hb, decodeTransaction_of_encode hc h]
  · simp only [decodeTransaction_commandWord]
    exact ⟨rfl, rfl, rfl, rfl, rfl, rfl, rfl, rfl, rfl, rfl, rfl, rfl, fun code h => decodeCommand_of_unknown h arg words⟩

end Machine

end Sys2Proof
end

section
/-! PROOFS. The commands of the port and its replies (09_local_port_and_parameter_store.md). -/

namespace Sys2Proof.Machine

/-! ## Replies and their delivery (R171) -/

theorem sdoWords_eq (reply : List Word) (n : Nat) : sdoWords reply n = (List.range n).map (fun k => reply.getD k 0) := by
  refine List.ext_getElem? fun k => ?_
  rw [sdoWords, List.getElem?_map]
  rcases Nat.lt_or_ge k n with hn | hn
  · rw [List.getElem?_range hn, Option.map_some]
    rcases Nat.lt_or_ge k reply.length with hr | hr
    · rw [List.getElem?_append_left (by simp; omega), List.getElem?_take_of_lt hn, List.getElem?_eq_getElem hr]
      simp [hr]
    · rw [List.getElem?_append_right (by simp; omega), List.getElem?_replicate, if_pos (by simp; omega),
        List.getD_eq_default _ _ hr]
  · rw [List.getElem?_eq_none (by simp; omega), List.getElem?_eq_none (by simpa using hn)]
    rfl

/-- A command leaves the delivery of its transaction as it stands: the words sent, and the emptied reply. -/
def State.KeepsDelivery (s t : State) : Prop := t.lp.sdo = s.lp.sdo ∧ t.lp.reply = s.lp.reply

theorem State.takeWindow_keepsDelivery (s : State) (words : List Word) : s.KeepsDelivery (s.takeWindow words) := by
  unfold State.takeWindow
  split
  · split <;> exact ⟨rfl, rfl⟩
  · exact ⟨rfl, rfl⟩

theorem State.takeDemand_keepsDelivery (s : State) (mode : Byte) (words : List Word) :
    s.KeepsDelivery (s.takeDemand mode words) := by
  unfold State.takeDemand
  split
  · dsimp only
    split <;> exact ⟨rfl, rfl⟩
  · exact ⟨rfl, rfl⟩

theorem State.takeLimits_keepsDelivery (s : State) (flag : Byte) (words : List Word) :
    s.KeepsDelivery (s.takeLimits flag words) := by
  unfold State.takeLimits
  split
  · split
    · exact ⟨rfl, rfl⟩
    · dsimp only
      split <;> exact ⟨rfl, rfl⟩
  · exact ⟨rfl, rfl⟩

theorem State.takeStart_keepsDelivery (s : State) : s.KeepsDelivery s.takeStart := by
  unfold State.takeStart
  split
  · split <;> exact ⟨rfl, rfl⟩
  · exact ⟨rfl, rfl⟩
  · exact ⟨rfl, rfl⟩
  · exact ⟨rfl, rfl⟩
  · split <;> exact ⟨rfl, rfl⟩

theorem State.takeStop_keepsDelivery (s : State) : s.KeepsDelivery s.takeStop := by
  rw [State.KeepsDelivery, s.takeStop_frame]
  exact ⟨rfl, rfl⟩

/-- A parameter word counts itself, and leaves the reply and the words sent. -/
theorem State.takeParameterWord_port (s : State) (count : Byte) (w : Word) :
    (s.takeParameterWord count w).lp.wordsTaken = s.lp.wordsTaken + 1 ∧ s.KeepsDelivery (s.takeParameterWord count w) := by
  unfold State.takeParameterWord
  dsimp only
  split
  · rcases s.writeAtCursor_cases w with ⟨-, h⟩ | ⟨-, -, h⟩ | ⟨-, -, h⟩
    all_goals
      rw [h]
      exact ⟨rfl, rfl, rfl⟩
  · exact ⟨rfl, rfl, rfl⟩

theorem State.takeParameterWords_port (s : State) (count : Byte) (words : List Word) :
    (s.takeParameterWords count words).lp.wordsTaken = s.lp.wordsTaken + words.length
    ∧ s.KeepsDelivery (s.takeParameterWords count words) := by
  induction words generalizing s with
  | nil => exact ⟨rfl, rfl, rfl⟩
  | cons w words ih =>
    obtain ⟨hfirst, hsdo, hreply⟩ := s.takeParameterWord_port count w
    obtain ⟨hrest, hsdo', hreply'⟩ := ih (s.takeParameterWord count w)
    refine ⟨?_, hsdo'.trans hsdo, hreply'.trans hreply⟩
    rw [List.length_cons]
    exact hrest.trans (by omega)

/-- The end of a whole WRITE_WORDS delivers the reply of the transaction before it. -/
theorem State.takeWriteWords_delivers {s : State} (h : s.lp.wordsTaken = 0) (count : Byte) (words : List Word) :
    s.KeepsDelivery (s.takeParameterWords count words)
    ∧ ((s.takeWriteWords count words).lp.sdo = sdoWords s.lp.reply (1 + words.length)
      ∧ (s.takeWriteWords count words).lp.reply = []) := by
  obtain ⟨hcount, hport⟩ := s.takeParameterWords_port count words
  refine ⟨hport, ?_⟩
  rw [s.takeWriteWords_eq, h, List.drop_zero]
  dsimp only
  rw [hcount, h, Nat.zero_add, ← hport.2]
  split <;> exact ⟨rfl, rfl⟩

/-- What holds of both branches, the first under its condition, holds of an `if`. -/
theorem ite_of_both {α : Type} {P : α → Prop} {p : Prop} [Decidable p] {a b : α} (ha : p → P a) (hb : P b) :
    P (if p then a else b) := by
  split
  next h => exact ha h
  next => exact hb

/-- What holds of the command of each code holds of the decoded command (R172 to R186). -/
theorem decodeCommand_satisfies {P : Instr → Prop} {code arg : Byte} {words : List Word}
    (h01 : P (.setWindow arg words)) (h02 : P (.writeWords arg words)) (h03 : code = 0x03 → P (.readWords arg words))
    (h10 : P (.start arg words)) (h11 : P (.stop arg words)) (h1F : P (.resetStation arg words))
    (h20 : P (.setDemand arg words)) (h21 : P (.setLimits arg words)) (h30 : code = 0x30 → P (.readStatus arg words))
    (h31 : code = 0x31 → P (.readSnapshot arg words)) (h32 : code = 0x32 → P (.readPeer arg words))
    (h33 : code = 0x33 → P (.readDiag arg words)) (hunknown : P (.unknownCommand code arg words)) :
    P (decodeCommand code arg words) := by
  unfold decodeCommand
  refine ite_of_both (fun _ => h01) (ite_of_both (fun _ => h02) (ite_of_both h03 (ite_of_both (fun _ => h10) ?_)))
  refine ite_of_both (fun _ => h11) (ite_of_both (fun _ => h1F) (ite_of_both (fun _ => h20) ?_))
  refine ite_of_both (fun _ => h21) (ite_of_both h30 (ite_of_both h31 (ite_of_both h32 (ite_of_both h33 hunknown))))
/-- A transaction sends the reply formed before it, and empties the buffer unless it reads (R171). -/
theorem effect_delivers {s : State} (h : s.lp.wordsTaken = 0) (ws : List Word) :
    (effect (decodeTransaction ws) s).lp.sdo = sdoWords s.lp.reply ws.length
    ∧ ((∀ w rest, ws = w :: rest → commandCode w ∉ [0x03#8, 0x30#8, 0x31#8, 0x32#8, 0x33#8]) →
      (effect (decodeTransaction ws) s).lp.reply = []) := by
  cases ws with
  | nil => exact ⟨rfl, fun _ => rfl⟩
  | cons w words =>
    have hlength : (w :: words).length = 1 + words.length := Nat.add_comm _ _
    have hkeeps {t : State} (hk : (s.deliver (1 + words.length)).KeepsDelivery t) {P : Prop} :
        t.lp.sdo = sdoWords s.lp.reply (1 + words.length) ∧ (P → t.lp.reply = []) := ⟨hk.1, fun _ => hk.2⟩
    have hreads {t : State} (hs : t.lp.sdo = sdoWords s.lp.reply (1 + words.length)) {code : Byte}
        (hmem : code ∈ [0x03#8, 0x30#8, 0x31#8, 0x32#8, 0x33#8]) (hc : commandCode w = code) :
        t.lp.sdo = sdoWords s.lp.reply (1 + words.length)
          ∧ ((∀ w' rest, w :: words = w' :: rest → commandCode w' ∉ [0x03#8, 0x30#8, 0x31#8, 0x32#8, 0x33#8]) →
            t.lp.reply = []) :=
      ⟨hs, fun hno => absurd hmem (hc ▸ hno w words rfl)⟩
    obtain ⟨-, hsent, hempty⟩ := State.takeWriteWords_delivers h (commandArg w) words
    rw [hlength]
    exact decodeCommand_satisfies (P := fun c => (effect c s).lp.sdo = sdoWords s.lp.reply (1 + words.length)
        ∧ ((∀ w' rest, w :: words = w' :: rest → commandCode w' ∉ [0x03#8, 0x30#8, 0x31#8, 0x32#8, 0x33#8]) →
          (effect c s).lp.reply = []))
      (hkeeps (State.takeWindow_keepsDelivery _ _)) ⟨hsent, fun _ => hempty⟩ (hreads rfl (by decide))
      (hkeeps (State.takeStart_keepsDelivery _)) (hkeeps (State.takeStop_keepsDelivery _)) (hkeeps ⟨rfl, rfl⟩)
      (hkeeps (State.takeDemand_keepsDelivery _ _ _)) (hkeeps (State.takeLimits_keepsDelivery _ _ _))
      (hreads rfl (by decide)) (hreads rfl (by decide)) (hreads rfl (by decide)) (hreads rfl (by decide)) (hkeeps ⟨rfl, rfl⟩)

/-- Settles O11. -/
theorem replyIsSentDuringTheNextTransaction : Obligations.ReplyIsSentDuringTheNextTransaction := by
  intro ws s ha h
  obtain ⟨hsdo, hreply⟩ := effect_delivers h ws
  rw [sdoWords_eq] at hsdo
  refine ⟨_, exec_of_active ha _, hsdo, fun k j hk hj => ?_, fun n hn => ?_, hreply⟩
  · rw [s.lp.sdoAt_word k j hj, hsdo]
    simp [List.getD_eq_getElem?_getD, hk]
  · rw [LocalPort.sdoAt, List.getD_eq_default _ _ (by omega)]
    exact BitVec.getLsbD_zero

/-! ## The parameter words of a WRITE_WORDS (R174, R175) -/

theorem State.takeParameterWord_of_acting {s : State} {count : Byte} (hc : s.ctl.state = .config)
    (hn : s.lp.wordsTaken < count.toNat) (w : Word) : s.takeParameterWord count w
      = { s.writeAtCursor w with lp := { (s.writeAtCursor w).lp with
          wordsTaken := (s.writeAtCursor w).lp.wordsTaken + 1 } } := by
  unfold State.takeParameterWord
  dsimp only
  rw [if_pos ⟨hc, hn⟩]

/-- A word of the store after a write at index 4 to 148. -/
theorem State.word_of_write {s t : State} {i : Nat} (hlo : 4 ≤ i) (hhi : i ≤ 148) {w : Word} (hp : t.ps = s.ps.write i w)
    (hc : t.ctl.strap = s.ctl.strap) (j : Nat) : t.word j = if j = i then w else s.word j := by
  rcases Nat.lt_or_ge j 4 with hj | hj
  · rw [if_neg (by omega)]
    unfold State.word State.own
    rw [hc]
    interval_cases j <;> rfl
  · rw [t.word_config hj, s.word_config hj, hp, ParamStore.write_words _ hlo hj hhi]

theorem exec_parameterWordTaken {s : State} (ha : s.active = true) (count : Byte) (w : Word) :
    exec (.parameterWordTaken count w) s = .next (s.takeParameterWord count w) := exec_of_active ha _

/-- Settles O14. -/
theorem parameterWordActsAtTheCursor : Obligations.ParameterWordActsAtTheCursor := by
  intro count w s ha
  rw [exec_parameterWordTaken ha]
  refine ⟨fun hc hn h3 hlast => ?_, fun hc hn h4 hlast h148 => ?_, fun hc hn hpast => ?_, fun hidle => ?_,
    fun words t hw hexec => ?_⟩
  · rcases s.writeAtCursor_cases w with ⟨h, -⟩ | ⟨-, -, h⟩ | ⟨-, h, -⟩
    · omega
    · rw [State.takeParameterWord_of_acting hc hn, h]
    · omega
  · rcases s.writeAtCursor_cases w with ⟨h, -⟩ | ⟨-, h, -⟩ | ⟨-, -, h⟩
    · omega
    · omega
    · rw [State.takeParameterWord_of_acting hc hn, h]
      refine ⟨_, rfl, State.word_of_write (s := s) h4 (hlast.trans h148) ?_ ?_, rfl, rfl, rfl⟩ <;> rfl
  · rcases s.writeAtCursor_cases w with ⟨-, h⟩ | ⟨h, -⟩ | ⟨h, -⟩
    · rw [State.takeParameterWord_of_acting hc hn, h]
      rfl
    · omega
    · omega
  · rw [State.takeParameterWord_of_idle hidle]
  · cases hexec
    have hactive : (s.takeParameterWord count w).active = true := by
      rw [s.takeParameterWord_frame count w]
      exact ha
    have hdrop : words.drop s.lp.wordsTaken = w :: words.drop (s.lp.wordsTaken + 1) := by
      obtain ⟨hlt, hget⟩ := List.getElem?_eq_some_iff.1 hw
      rw [List.drop_eq_getElem_cons hlt, hget]
    rw [exec_of_active hactive, exec_of_active ha]
    show Host.Outcome.next ((s.takeParameterWord count w).takeWriteWords count words) = .next (s.takeWriteWords count words)
    rw [State.takeWriteWords_eq, s.takeWriteWords_eq, hdrop, (s.takeParameterWord_port count w).1]
    rfl

end Sys2Proof.Machine
end

section
/-! PROOFS. The values a transaction stores and the replies it forms (09_local_port_and_parameter_store.md). -/

namespace Sys2Proof.Machine

/-! ## Commands refused for a missing word (R172) -/

theorem State.takeWindow_of_missing {words : List Word} (h : words.length < 2) (s : State) :
    s.takeWindow words = s.portFault := by
  match words, h with
  | [], _ => rfl
  | [_], _ => rfl

theorem State.takeLimits_of_missing {words : List Word} (h : words.length < 2) (s : State) (immediate : Byte) :
    s.takeLimits immediate words = s.portFault := by
  match words, h with
  | [], _ => rfl
  | [_], _ => rfl

theorem State.takeDemand_nil (s : State) (mode : Byte) : s.takeDemand mode [] = s.portFault := by
  unfold State.takeDemand
  cases modeOfCode mode.toNat <;> rfl

/-- A refused WRITE_WORDS raises PORT_FAULT at its end and does nothing else (R175). -/
theorem State.takeWriteWords_of_outside {s : State} (hc : s.ctl.state ≠ .config) {words : List Word}
    (hn : s.lp.wordsTaken ≤ words.length) (count : Byte) :
    s.takeWriteWords count words = (s.deliver (1 + words.length)).portFault := by
  have hcount : s.lp.wordsTaken + (words.drop s.lp.wordsTaken).length = words.length := by
    rw [List.length_drop]
    omega
  rw [State.takeWriteWords_of_refused hc, hcount]
  rfl

/-! ## SET_DEMAND (R178) -/

theorem modeOfCode_of_gt {n : Nat} (h : 3 < n) : modeOfCode n = none := by
  refine Option.eq_none_iff_forall_ne_some.2 fun m hm => ?_
  have hcode := modeOfCode_eq_some.1 hm
  have hlt := m.code_lt
  omega

theorem State.takeDemand_of_badMode {mode : Byte} (h : 3 < mode.toNat) (s : State) (words : List Word) :
    s.takeDemand mode words = s.portFault := by
  unfold State.takeDemand
  rw [modeOfCode_of_gt h]

theorem holdInt_eq_ite {lo hi : Int} (h : lo ≤ hi) (v : Int) :
    holdInt lo hi v = if v < lo then lo else if hi < v then hi else v := by
  unfold holdInt
  split
  · omega
  · split <;> omega

theorem holdInt_ne_iff {lo hi : Int} (h : lo ≤ hi) (v : Int) : holdInt lo hi v ≠ v ↔ v < lo ∨ hi < v := by
  unfold holdInt
  omega

theorem State.takeDemand_of_mode {mode : Byte} {m : Mode} (hm : m.code = mode.toNat) (s : State) (w : Word)
    (rest : List Word) : s.takeDemand mode (w :: rest)
      = (let dMax : Int := (max 1000 (min 20000 (s.word 5).toNat) : Nat)
        { s with
          lp := { s.lp with
            mode := m, demandAge := 0
            demand := if w.toInt < -dMax then -dMax else if dMax < w.toInt then dMax else w.toInt }
          hu := { s.hu with flags :=
            if w.toInt < -dMax ∨ dMax < w.toInt then s.hu.flags ||| 0x0004#16 else s.hu.flags } }) := by
  have hle : -((max 1000 (min 20000 (s.word 5).toNat) : Nat) : Int) ≤ ((max 1000 (min 20000 (s.word 5).toNat) : Nat) : Int) := by
    omega
  unfold State.takeDemand
  rw [modeOfCode_eq_some.2 hm]
  dsimp only
  rw [s.param_dMax, ← holdInt_eq_ite hle, ite_congr (propext (holdInt_ne_iff hle w.toInt)) (fun _ => rfl) (fun _ => rfl)]
  split <;> rfl

/-- Settles O18. -/
theorem setDemandStoresTheHeldDemand : Obligations.SetDemandStoresTheHeldDemand := by
  intro mode words s ha
  rw [exec_of_active ha]
  refine ⟨fun hbad => ?_, fun m w rest hm hw => ?_⟩
  · rcases hbad with hmode | rfl
    · exact congrArg Host.Outcome.next (State.takeDemand_of_badMode hmode _ words)
    · exact congrArg Host.Outcome.next (State.takeDemand_nil _ mode)
  · subst hw
    exact congrArg Host.Outcome.next (State.takeDemand_of_mode hm _ w rest)

/-! ## SET_LIMITS (R180) -/

theorem holdLimit_cast (peak : Nat) (w : Word) : (holdLimit peak w : Int) = max 0 (min (peak : Int) w.toInt) :=
  Int.toNat_of_nonneg (Int.le_max_left _ _)

theorem State.takeLimits_of_words {immediate : Byte} (hi : immediate.toNat ≤ 1) (s : State) (x y : Word)
    (rest : List Word) : s.takeLimits immediate (x :: y :: rest)
      = (let drive := holdLimit (min 20000 (s.word 140).toNat) x
        let regen := holdLimit (min 20000 (s.word 141).toNat) y
        { s with
          lp := { s.lp with driveLimit := drive, regenLimit := regen, immediate := decide (immediate.toNat = 1) }
          hu := { s.hu with flags :=
            if (drive : Int) ≠ x.toInt ∨ (regen : Int) ≠ y.toInt then s.hu.flags ||| 0x0002#16 else s.hu.flags } }) := by
  unfold State.takeLimits
  dsimp only
  rw [if_neg (Nat.not_lt.2 hi), s.param_drivePeak, s.param_regenPeak]
  split <;> rfl

/-- Settles O19. -/
theorem setLimitsStoresTheHeldLimits : Obligations.SetLimitsStoresTheHeldLimits := by
  intro immediate words s ha
  rw [exec_of_active ha]
  refine ⟨fun hbad => congrArg Host.Outcome.next ?_, fun x y rest hi hw => ?_⟩
  · rcases Nat.lt_or_ge words.length 2 with hmissing | hwords
    · exact State.takeLimits_of_missing hmissing _ immediate
    · match words, hwords with
      | x :: y :: rest, hwords =>
        have himmediate : 1 < immediate.toNat := hbad.resolve_right (by omega)
        exact if_pos himmediate
  · subst hw
    exact ⟨_, _, holdLimit_cast _ x, holdLimit_cast _ y,
      congrArg Host.Outcome.next (State.takeLimits_of_words hi _ x y rest)⟩

/-! ## READ_STATUS, READ_SNAPSHOT and READ_DIAG (R182, R184, R186) -/

theorem StopCause.code_lt (c : StopCause) : c.code < 3 := by cases c <;> decide
theorem HoReport.code_lt (r : HoReport) : r.code < 5 := by cases r <;> decide

/-- Settles O20. -/
theorem readStatusReportsItsFields : Obligations.ReadStatusReportsItsFields := by
  intro arg words s ha hcode
  have hbasis : (if s.ctl.state = .run then s.ale.selection.basis.code else 0) = s.reportedBasis.code := by
    unfold State.reportedBasis
    split <;> rfl
  have hquiet : (if s.sbi.interval = .sixteen then 1 else 0) = (decide (s.sbi.interval = .sixteen)).toNat := by
    cases s.sbi.interval <;> rfl
  have hq := (decide (s.sbi.interval = .sixteen)).toNat_le
  have hstate := s.ctl.state.code_lt
  have hb := s.reportedBasis.code_lt
  have hcause := s.ctl.stopCause.code_lt
  have hreport := s.hou.report.code_lt
  refine ⟨statusWord s.ctl.state s.reportedBasis s.ctl.stopCause s.ctl.refusalCode
    (decide (s.sbi.interval = .sixteen)) s.hou.report, exec_of_active ha _, ?_⟩
  rw [hbasis, hquiet, statusWord, natWord_toNat (by omega)]
  refine ⟨?_, ?_, ?_, ?_, ?_, ?_, ?_, rfl, rfl, rfl, rfl⟩ <;> omega

/-- Settles O21. -/
theorem readSnapshotAndReadDiag : Obligations.ReadSnapshotAndReadDiag := by
  intro arg words s ha
  refine ⟨⟨s.snapshotReply, exec_of_active ha _, ?_, fun k => ?_, ?_⟩, exec_of_active ha _⟩
  · simp [State.snapshotReply]
  · rw [State.snapshotReply, List.getD_append _ _ _ _ (by simp)]
    simp
  · rw [State.snapshotReply, List.getD_append_right _ _ _ _ (by simp)]
    simp [wordsCheckCode]

/-! ## READ_PEER (R185) -/

theorem pairWord_zero : pairWord 0#8 0#8 = 0#16 := rfl

/-- Word k of bytes taken two to a word, with bytes of 0 past the end. -/
theorem pairWords_getD (bytes : List Byte) (k : Nat) :
    (pairWords bytes).getD k 0 = pairWord (bytes.getD (2 * k) 0) (bytes.getD (2 * k + 1) 0) := by
  induction bytes using pairWords.induct generalizing k with
  | case1 a b rest ih =>
    cases k with
    | zero => rfl
    | succ k => exact ih k
  | case2 a => cases k <;> simp [pairWords, pairWord_zero, Nat.mul_succ]
  | case3 => simp [pairWords, pairWord_zero]

theorem pairWords_head_length (f : ShareFrame) : (pairWords f.head).length = 8 := rfl

theorem AgeClass.code_of_record {p q : Prop} [Decidable p] [Decidable q] :
    (if p then AgeClass.fresh else if q then AgeClass.grace else AgeClass.lost).code = if p then 1 else if q then 2 else 3 := by
  split
  · rfl
  · split <;> rfl

theorem State.readPeerReply_of_none {s : State} {number : Byte}
    (h : s.pt.entries.find? (fun e => e.station.val == number.toNat) = none) :
    s.readPeerReply number = List.replicate 14 0 := by
  unfold State.readPeerReply
  rw [h]
  rfl

theorem State.readPeerReply_of_never {s : State} {number : Byte} {e : PeerEntry}
    (h : s.pt.entries.find? (fun e => e.station.val == number.toNat) = some e) (hr : e.record = none) :
    s.readPeerReply number = 0x4000#16 :: List.replicate 13 0 := by
  unfold State.readPeerReply
  rw [h]
  dsimp only
  rw [hr]
  rfl

theorem State.readPeerReply_of_record {s : State} {number : Byte} {e : PeerEntry} {r : PeerRecord}
    (h : s.pt.entries.find? (fun e => e.station.val == number.toNat) = some e) (hr : e.record = some r) :
    s.readPeerReply number = peerReply r (s.classOf (some r)) := by
  unfold State.readPeerReply
  rw [h]
  dsimp only
  rw [hr]

/-- The words of a READ_PEER reply that carry the frame's first sixteen bytes. -/
theorem peerReply_head (r : PeerRecord) (cls : AgeClass) {k : Nat} (hk : k < 8) :
    (peerReply r cls).getD (4 + k) 0
      = pairWord (r.frame.bytes.getD (2 * k) 0) (r.frame.bytes.getD (2 * k + 1) 0) := by
  have hlength : r.frame.head.length = 16 := rfl
  rw [peerReply, List.getD_append _ _ _ _ (by simp [pairWords_head_length]; omega),
    List.getD_append_right _ _ _ _ (by simp), r.frame.bytes_eq, List.getD_append _ _ _ _ (by omega),
    List.getD_append _ _ _ _ (by omega), ← pairWords_getD]
  congr 1
  simp

/-- Settles O22. -/
theorem readPeerReportsTheRecord : Obligations.ReadPeerReportsTheRecord := by
  intro number words s ha
  rw [exec_of_active ha]
  refine ⟨fun h => ?_, fun e h hr => ?_, fun e r h hr => ⟨peerReply r (s.classOf (some r)), ?_, rfl, ?_, rfl, rfl, rfl,
    fun k hk => peerReply_head r _ hk, rfl, rfl⟩⟩
  · rw [← State.readPeerReply_of_none h]
    rfl
  · rw [← State.readPeerReply_of_never h hr]
    rfl
  · rw [← State.readPeerReply_of_record h hr]
    rfl
  · have hdigest : (if r.digest.isSome then 2048 else 0) = r.digest.isSome.toNat * 2048 := by
      cases r.digest <;> simp
    dsimp only
    rw [hdigest, ← AgeClass.code_of_record, ← s.classOf_eq]
    rfl

/-! ## What raises PORT_FAULT and nothing else (R170, R172, R175) -/

theorem State.deliver_zero (s : State) : s.deliver 0
    = { s with lp := { s.lp with sdo := [], reply := [], wordsTaken := 0, overrun := false } } := by
  rw [State.deliver, sdoWords_eq]
  rfl

/-- Settles O23. -/
theorem badTransactionsRaisePortFault : Obligations.BadTransactionsRaisePortFault := by
  intro code arg words s ha
  rw [decodeTransaction_commandWord, exec_of_active ha]
  refine ⟨fun hcode => ?_, fun hcode hwords => ?_, fun hcode hwords => ?_, fun hcode hstate hn => ?_, ?_⟩
  · rw [decodeCommand_of_unknown hcode]
    rfl
  · rcases hcode with rfl | rfl
    · exact congrArg Host.Outcome.next (State.takeWindow_of_missing hwords _)
    · exact congrArg Host.Outcome.next (State.takeLimits_of_missing hwords _ arg)
  · subst hcode hwords
    exact congrArg Host.Outcome.next (State.takeDemand_nil _ arg)
  · subst hcode
    exact congrArg Host.Outcome.next (State.takeWriteWords_of_outside hstate hn arg)
  · rw [exec_of_active ha]
    exact congrArg Host.Outcome.next s.deliver_zero

end Sys2Proof.Machine
end

section
/-! PROOFS. The words of a whole WRITE_WORDS (09_local_port_and_parameter_store.md 9.2). -/

namespace Sys2Proof.Machine

/-- The cursor stands in the window or just past it, and the overrun counter in its range. -/
structure State.CursorInWindow (s : State) : Prop where
  cursor_le : s.lp.cursor ≤ s.lp.last + 1
  last_le : s.lp.last ≤ 148
  overrun_le : s.hu.storeOverrun ≤ 65535

/-- `t` has taken the parameter words in `s`, of which the first m act: what the store, the port and the overrun
counter have become (R174). -/
structure State.Took (s t : State) (m : Nat) (words : List Word) : Prop where
  word_eq : ∀ i, t.word i = if 4 ≤ i ∧ s.lp.cursor ≤ i ∧ i < s.lp.cursor + m ∧ i ≤ s.lp.last
    then words.getD (i - s.lp.cursor) 0 else s.word i
  lp_eq : t.lp = { s.lp with
    cursor := min (s.lp.cursor + m) (s.lp.last + 1), wordsTaken := s.lp.wordsTaken + words.length
    overrun := s.lp.overrun || decide (0 < s.lp.cursor + m - (s.lp.last + 1)) }
  hu_eq : t.hu = { s.hu with
    storeOverrun := min 65535 (s.hu.storeOverrun + (s.lp.cursor + m - (s.lp.last + 1))) }

/-- Words of which none acts are only counted. -/
theorem State.took_idle {s : State} (h : s.CursorInWindow) (words : List Word) :
    s.Took { s with lp := { s.lp with wordsTaken := s.lp.wordsTaken + words.length } } 0 words := by
  obtain ⟨hcursor, -, hoverrun⟩ := h
  have hpast : s.lp.cursor + 0 - (s.lp.last + 1) = 0 := by omega
  refine ⟨fun i => (if_neg (by omega)).symm, ?_, ?_⟩
  · rw [hpast, Nat.add_zero, Nat.min_eq_left hcursor, decide_eq_false (Nat.lt_irrefl 0), Bool.or_false]
  · rw [hpast, Nat.add_zero, Nat.min_eq_right hoverrun]

/-- A word that acts inside the window moves the cursor on. -/
theorem State.took_inside {s t : State} (h : s.CursorInWindow) (hin : s.lp.cursor ≤ s.lp.last) {w : Word}
    (hword : ∀ i, t.word i = if 4 ≤ i ∧ i = s.lp.cursor then w else s.word i)
    (hlp : t.lp = { s.lp with cursor := s.lp.cursor + 1, wordsTaken := s.lp.wordsTaken + 1 }) (hhu : t.hu = s.hu) :
    s.Took t 1 [w] := by
  obtain ⟨-, -, hoverrun⟩ := h
  have hpast : s.lp.cursor + 1 - (s.lp.last + 1) = 0 := by omega
  refine ⟨fun i => ?_, ?_, ?_⟩
  · rw [hword]
    by_cases hi : i = s.lp.cursor
    · subst hi
      rw [Nat.sub_self]
      exact if_congr (by omega) rfl rfl
    · rw [if_neg (by omega), if_neg (by omega)]
  · rw [hlp, hpast, Nat.min_eq_left (Nat.succ_le_succ hin), decide_eq_false (Nat.lt_irrefl 0), Bool.or_false]
    rfl
  · rw [hhu, hpast, Nat.add_zero, Nat.min_eq_right hoverrun]

/-- One word that acts: past the end, passed over, or written. -/
theorem State.took_acting {s : State} (h : s.CursorInWindow) {count : Byte} (hc : s.ctl.state = .config)
    (hn : s.lp.wordsTaken < count.toNat) (w : Word) : s.Took (s.takeParameterWord count w) 1 [w] := by
  have hlast := h.last_le
  have hcursor := h.cursor_le
  rw [State.takeParameterWord_of_acting hc hn]
  rcases s.writeAtCursor_cases w with ⟨hpast, heq⟩ | ⟨hin, h3, heq⟩ | ⟨hin, h4, heq⟩
  · have hone : s.lp.cursor + 1 - (s.lp.last + 1) = 1 := by omega
    have hend : min (s.lp.cursor + 1) (s.lp.last + 1) = s.lp.cursor := by omega
    rw [heq]
    refine ⟨fun i => (if_neg (by omega)).symm, ?_, ?_⟩
    · rw [hone, hend, decide_eq_true Nat.one_pos, Bool.or_true]
      rfl
    · rw [hone]
      rfl
  · rw [heq]
    exact State.took_inside h hin (fun i => (if_neg (by omega)).symm) rfl rfl
  · rw [heq]
    refine State.took_inside h hin (fun i => ?_) rfl rfl
    rw [if_congr (and_iff_right_of_imp (fun hi => hi ▸ h4)) rfl rfl]
    refine State.word_of_write (s := s) h4 (hin.trans hlast) ?_ ?_ i <;> rfl

/-- Words taken one list after the other: no word of the second list acts once one of the first has not. -/
theorem State.Took.append {s t u : State} {m m' : Nat} {words words' : List Word} (h : s.Took t m words)
    (h' : t.Took u m' words') (hm : m = words.length ∨ m' = 0)
    (hle : m ≤ words.length) : s.Took u (m + m') (words ++ words') := by
  obtain ⟨hword, hlp, hhu⟩ := h
  obtain ⟨hword', hlp', hhu'⟩ := h'
  have hpast : s.lp.cursor + m - (s.lp.last + 1) + (min (s.lp.cursor + m) (s.lp.last + 1) + m' - (s.lp.last + 1))
      = s.lp.cursor + (m + m') - (s.lp.last + 1) := by omega
  have hend : min (min (s.lp.cursor + m) (s.lp.last + 1) + m') (s.lp.last + 1)
      = min (s.lp.cursor + (m + m')) (s.lp.last + 1) := by omega
  refine ⟨fun i => ?_, ?_, ?_⟩
  · rw [hword', hword, hlp]
    dsimp only
    by_cases hin : 4 ≤ i ∧ s.lp.cursor ≤ i ∧ i < s.lp.cursor + (m + m') ∧ i ≤ s.lp.last
    · rw [if_pos hin]
      rcases Nat.lt_or_ge i (s.lp.cursor + m) with hfirst | hsecond
      · rw [if_neg (by omega), if_pos (by omega), List.getD_append _ _ _ _ (by omega)]
      · rw [if_pos (by omega), List.getD_append_right _ _ _ _ (by omega)]
        congr 1
        omega
    · rw [if_neg hin, if_neg (by omega), if_neg (by omega)]
  · rw [hlp', hlp]
    dsimp only
    rw [hend, ← hpast, List.length_append, Nat.add_assoc, Bool.or_assoc, ← Bool.decide_or,
      decide_eq_decide.2 (Nat.add_pos_iff_pos_or_pos (m := s.lp.cursor + m - (s.lp.last + 1))
        (n := min (s.lp.cursor + m) (s.lp.last + 1) + m' - (s.lp.last + 1)))]
  · rw [hhu', hhu, hlp]
    dsimp only
    congr 1
    omega

theorem State.Took.cursorInWindow {s t : State} {m : Nat} {words : List Word} (h : s.Took t m words)
    (hs : s.CursorInWindow) : t.CursorInWindow := by
  obtain ⟨-, hlp, hhu⟩ := h
  refine ⟨?_, ?_, ?_⟩
  · rw [hlp]
    exact Nat.min_le_right _ _
  · rw [hlp]
    exact hs.last_le
  · rw [hhu]
    exact Nat.min_le_left _ _

/-- The words of a WRITE_WORDS in CONFIG: those within the count act (R174). -/
theorem State.takeParameterWords_took {s : State} (h : s.CursorInWindow) (hc : s.ctl.state = .config) (count : Byte)
    (words : List Word) :
    s.Took (s.takeParameterWords count words) (min (count.toNat - s.lp.wordsTaken) words.length) words := by
  induction words generalizing s with
  | nil =>
    rw [List.length_nil, Nat.min_zero]
    exact State.took_idle h []
  | cons w words ih =>
    show s.Took ((s.takeParameterWord count w).takeParameterWords count words) _ _
    rcases Nat.lt_or_ge s.lp.wordsTaken count.toNat with hn | hn
    · have hfirst := State.took_acting h hc hn w
      have hrest := ih (hfirst.cursorInWindow h) (of_frame (·.ctl.state) (s.takeParameterWord_frame count w) hc)
      have hm : min (count.toNat - s.lp.wordsTaken) (w :: words).length
          = 1 + min (count.toNat - (s.takeParameterWord count w).lp.wordsTaken) words.length := by
        have hcount : (s.takeParameterWord count w).lp.wordsTaken = s.lp.wordsTaken + 1 :=
          congrArg LocalPort.wordsTaken hfirst.lp_eq
        rw [hcount, List.length_cons]
        omega
      rw [hm]
      exact hfirst.append hrest (.inl rfl) (Nat.le_refl 1)
    · have hfirst := State.took_idle h [w]
      have hrest := ih (hfirst.cursorInWindow h) hc
      have hm : min (count.toNat - s.lp.wordsTaken) (w :: words).length = 0 := by omega
      have hm' : min (count.toNat - (s.lp.wordsTaken + [w].length)) words.length = 0 := by omega
      rw [hm, State.takeParameterWord_of_idle (.inr hn)]
      rw [hm'] at hrest
      exact hfirst.append hrest (.inr rfl) (Nat.zero_le _)

/-- The end of a whole WRITE_WORDS in CONFIG (R172, R174, R194). -/
theorem State.takeWriteWords_of_config {s : State} (hc : s.ctl.state = .config) (hn : s.lp.wordsTaken = 0)
    {count : Byte} {words : List Word} {p : Prop} [Decidable p]
    (hp : words.length < count.toNat ∨ (s.takeParameterWords count words).lp.overrun = true ↔ p) :
    s.takeWriteWords count words
      = { (s.takeParameterWords count words).deliver (1 + words.length) with
          hu := { (s.takeParameterWords count words).hu with
            flags := if p then (s.takeParameterWords count words).hu.flags ||| 0x0001#16
              else (s.takeParameterWords count words).hu.flags } } := by
  have hstate : (s.takeParameterWords count words).ctl.state = .config :=
    of_frame (·.ctl.state) (s.takeParameterWords_frame count words) hc
  have hcount : (s.takeParameterWords count words).lp.wordsTaken = words.length := by
    rw [(s.takeParameterWords_port count words).1, hn, Nat.zero_add]
  rw [s.takeWriteWords_eq, hn, List.drop_zero]
  dsimp only
  rw [hstate, hcount]
  by_cases h : p
  · rw [if_pos (.inr (hp.2 h)), if_pos h]
    rfl
  · rw [if_neg (by rintro (h' | h'); exacts [h' rfl, h (hp.1 h')]), if_neg h]
    rfl

/-- Settles O15. -/
theorem writeWordsStoresItsWords : Obligations.WriteWordsStoresItsWords := by
  intro count words s ha hc hn hoverrun hcursor hlast hcounter
  obtain ⟨hword, hlp, hhu⟩ := State.takeParameterWords_took ⟨hcursor, hlast, hcounter⟩ hc count words
  have hframe := s.takeParameterWords_frame count words
  have hlocked : (s.takeParameterWords count words).ps.locked = s.ps.locked := of_frame (·.ps.locked) hframe rfl
  have hdigest : (s.takeParameterWords count words).ps.digest = s.ps.digest := of_frame (·.ps.digest) hframe rfl
  rw [hn, Nat.sub_zero] at hword hlp hhu
  rw [hoverrun, Bool.false_or] at hlp
  have hend := State.takeWriteWords_of_config (count := count) (words := words) hc hn
    (or_congr_right ((congrArg (LocalPort.overrun · = true) hlp).to_iff.trans decide_eq_true_iff))
  refine ⟨s.takeWriteWords count words, exec_of_active ha _, ?_⟩
  rw [hend]
  refine ⟨hword, hlocked, hdigest, ?_⟩
  rw [hframe, State.deliver, hlp, hhu]
  rfl

end Sys2Proof.Machine
end

section
/-! PROOFS. The reset state, evaluated: its default store is valid, and every invariant holds of it. -/

namespace Sys2Proof.Machine

/-! ## The default store (R188, R203) -/

theorem reset_maskPasses : State.reset.MaskPasses := ⟨by decide, by decide, by decide⟩
theorem reset_ranges : rangeIndices.find? State.reset.outOfRange = none := by decide
theorem reset_profile : profileIndices.find? State.reset.badProfile = none := by decide
theorem reset_patterns : patternIndices.find? State.reset.badPattern = none := by decide
theorem reset_sets : (List.range 8).find? State.reset.emptySet = none := by decide

/-- The default store passes every check of R7. -/
theorem reset_validate : State.reset.validate = none :=
  State.reset.validate_none_iff.2 ⟨reset_maskPasses, reset_ranges, reset_profile, reset_patterns, reset_sets⟩

theorem reset_words_shared : (List.range' 4 18).map State.reset.word
    = [3, 8000, 3, 5, 50, 500, 120, 40, 4, 10, 20, 200, 5, 10, 300, 60, 200, 20] := by decide

theorem reset_words_local : (List.range' 134 15).map State.reset.word
    = [5200, 5200, 0, 0, 3072, 2400, 7000, 3000, 40, 80, 4, 4, 50, 1, 200] := by decide

theorem reset_words_tables : (∀ i ∈ List.range' 22 32, State.reset.word i = 1)
    ∧ (∀ i ∈ List.range' 54 64, State.reset.word i = 0)
    ∧ ∀ i ∈ List.range' 118 16, State.reset.word i = 0x0800 := by decide

/-! ## The invariants -/

theorem reset_lifeInv : State.reset.lifeInv := by
  refine ⟨by decide, by decide, fun _ => reset_validate, by decide, by decide, by decide, by decide⟩

theorem reset_viewInv : State.reset.viewInv := by decide
theorem reset_handoverInv : State.reset.handoverInv := by decide
theorem reset_silentInv : State.reset.silentInv := by decide

theorem reset_portRange : State.reset.portRange := by decide
theorem reset_wheelRange : State.reset.wheelRange := by decide
theorem reset_tableRange : State.reset.tableRange := by decide
theorem reset_slipRange : State.reset.slipRange := by decide
theorem reset_torqueRange : State.reset.torqueRange := by decide
theorem reset_healthRange : State.reset.healthRange := by decide

theorem reset_rangeInv : State.reset.rangeInv :=
  ⟨reset_portRange, reset_wheelRange, reset_tableRange, reset_slipRange, reset_torqueRange, reset_healthRange⟩

/-- Settles O60. -/
theorem resetMeetsTheInvariants : Obligations.ResetMeetsTheInvariants := by
  obtain ⟨hsets, hprofile, hpatterns⟩ := reset_words_tables
  refine ⟨reset_lifeInv, reset_viewInv, reset_rangeInv, reset_handoverInv, reset_silentInv, rfl, rfl, rfl, rfl, rfl, rfl,
    rfl, rfl, rfl, rfl, rfl, rfl, rfl, rfl, rfl, rfl, reset_words_shared, fun i => ⟨fun hi => ?_, fun hi => ?_, fun hi => ?_⟩,
    reset_words_local, reset_validate⟩
  · exact hsets i (by rw [List.mem_range'_1]; omega)
  · exact hprofile i (by rw [List.mem_range'_1]; omega)
  · exact hpatterns i (by rw [List.mem_range'_1]; omega)

end Sys2Proof.Machine
end

section
/-! PROOFS. The ranges of the registers: the resets, START and STOP case by case, station control and the port
(01_station_life_cycle.md 1.1, 09_local_port_and_parameter_store.md 9.1). -/

namespace Sys2Proof.Machine

/-! ## START and STOP, case by case (R6, R12, R16) -/

theorem State.takeStart_cases (s : State) :
    (s.ctl.state ≠ .config ∧ s.takeStart = s) ∨ (s.ctl.state ≠ .config ∧ s.takeStart = s.portFault)
    ∨ (s.ctl.state = .config ∧ s.validate = none ∧ s.takeStart = s.acceptStart)
    ∨ (∃ code index, s.ctl.state = .config ∧ s.Refused code index ∧ s.takeStart = s.refuseStart code index)
    ∨ (s.ctl.state = .stopped ∧ s.takeStart = s.enterListen) := by
  cases hc : s.ctl.state with
  | config =>
    cases hv : s.validate with
    | none => exact .inr (.inr (.inl ⟨rfl, rfl, State.takeStart_of_valid hc hv⟩))
    | some refusal =>
      exact .inr (.inr (.inr (.inl ⟨_, _, rfl, State.refused_of_validate hv, State.takeStart_of_invalid hc hv⟩)))
  | listen => exact .inl ⟨nofun, State.takeStart_of_started (.inl hc)⟩
  | run => exact .inl ⟨nofun, State.takeStart_of_started (.inr (.inl hc))⟩
  | stopping => exact .inl ⟨nofun, State.takeStart_of_started (.inr (.inr hc))⟩
  | stopped =>
    rw [State.takeStart_of_stopped hc]
    cases s.ctl.dupLatch with
    | true => exact .inr (.inl ⟨nofun, rfl⟩)
    | false => exact .inr (.inr (.inr (.inr ⟨rfl, rfl⟩)))

theorem State.takeStop_cases (s : State) :
    (s.ctl.state ≠ .config ∧ s.takeStop = s) ∨ (s.ctl.state = .config ∧ s.takeStop = s.portFault)
    ∨ (s.ctl.state = .listen ∧ s.takeStop = s.stopInto .stopped .host)
    ∨ (s.ctl.state = .run ∧ s.takeStop = s.leaveRun .host) := by
  cases hc : s.ctl.state with
  | config => exact .inr (.inl ⟨rfl, State.takeStop_of_config hc⟩)
  | listen => exact .inr (.inr (.inl ⟨rfl, State.takeStop_of_listen hc⟩))
  | run => exact .inr (.inr (.inr ⟨rfl, State.takeStop_of_run hc⟩))
  | stopping => exact .inl ⟨nofun, State.takeStop_of_stopped (.inl hc)⟩
  | stopped => exact .inl ⟨nofun, State.takeStop_of_stopped (.inr hc)⟩

/-! ## The resets and the parameters -/

/-- Outside CONFIG no command but a clearing one changes a parameter. -/
theorem effect_param {c : Instr} (hc : clears c = false) {s : State} (hs : s.ctl.state ≠ .config) :
    (effect c s).param = s.param := by
  obtain ⟨hwords | ⟨hconfig, -⟩, hstrap⟩ := effect_words hc s
  · exact State.param_of_words hwords hstrap
  · exact absurd hconfig hs

/-- No command leads into CONFIG but a clearing one, and START alone leads out of it. -/
theorem effect_ne_config {c : Instr} (hc : clears c = false) {s : State} (hs : (effect c s).ctl.state ≠ .config) :
    s.ctl.state ≠ .config ∨ ∃ arg words, c = .start arg words := by
  rcases effect_cases c s with h | h | ⟨-, -, words, p, u, h⟩ | h | ⟨arg, words, rfl⟩ | ⟨-, h⟩ | ⟨-, h⟩ | ⟨-, h⟩
    | ⟨bytes, -, h, -⟩
  · exact absurd (hc.symm.trans h) Bool.false_ne_true
  · exact .inl (h.ctl ▸ hs)
  · exact .inl (by rwa [h] at hs)
  · exact .inr h
  · refine .inl fun hconfig => hs ?_
    rw [effect, State.takeStop_of_config (s := s.deliver _) hconfig]
    exact hconfig
  · rw [h, s.latchView_frame] at hs
    exact .inl hs
  · rw [h, s.stepHandover_frame] at hs
    exact .inl hs
  · rw [h, s.shapeCommand_ctl] at hs
    exact .inl fun hconfig => hs (s.tested_state_config_iff.2 hconfig)
  · exact .inl h

theorem effect_config {c : Instr} (hc : clears c = false) {s : State} (hs : (effect c s).ctl.state = .config) :
    s.ctl.state = .config := by
  rcases effect_cases c s with h | h | ⟨-, h, -⟩ | ⟨arg, words, rfl⟩ | ⟨arg, words, rfl⟩ | ⟨-, h⟩ | ⟨-, h⟩ | ⟨-, h⟩
    | ⟨bytes, -, -, h⟩
  · exact absurd (hc.symm.trans h) Bool.false_ne_true
  · exact h.ctl ▸ hs
  · exact h
  · rcases (s.deliver (1 + words.length)).takeStart_state with heq | ⟨-, heq⟩
    · exact heq.symm.trans hs
    · exact nomatch heq.symm.trans hs
  · rcases (s.deliver (1 + words.length)).takeStop_state with heq | ⟨-, heq⟩ | ⟨-, heq⟩
    · exact heq.symm.trans hs
    · exact nomatch heq.symm.trans hs
    · exact nomatch heq.symm.trans hs
  · rwa [h, s.latchView_frame] at hs
  · rwa [h, s.stepHandover_frame] at hs
  · rwa [h, s.shapeCommand_ctl, s.tested_state_config_iff] at hs
  · rw [h] at hs
    rcases s.receiveFrame_ctl bytes with heq | ⟨-, l, heq, rfl | ⟨-, rfl⟩⟩ <;> rw [heq] at hs
    · exact hs
    · exact hs
    · exact nomatch hs

/-- The values after a reset lie in their ranges: those of the reset state, and limits that are the wheel peaks. -/
theorem State.clearRuntime_rangeInv (u : State) (supply rstn : Bool) (sdo : List Word) :
    State.rangeInv { u.clearRuntime with supplyValid := supply, rstnHigh := rstn, lp := { u.clearRuntime.lp with sdo := sdo } } := by
  have hdrive := (u.param_le Idx.drivePeak (by decide)).2
  have hregen := (u.param_le Idx.regenPeak (by decide)).2
  obtain ⟨hrefusal, ⟨hlisten, -⟩, hwindow, ⟨hdemand, -, -, hage⟩, -⟩ := reset_portRange
  obtain ⟨htable, hcounter, hview, -, -, hdemand', hage', -⟩ := reset_tableRange
  obtain ⟨hslip, hrecord, hpublished, hprev, hlength, hpairs, -⟩ := reset_slipRange
  obtain ⟨hselection, hshares, htorque, -, htarget⟩ := reset_torqueRange
  obtain ⟨hbus, -, hcounters, hpmk⟩ := reset_healthRange
  exact ⟨⟨hrefusal, ⟨hlisten, nofun⟩, hwindow, ⟨hdemand, hdrive, hregen, hage⟩, fun h => absurd rfl h⟩,
    reset_wheelRange,
    ⟨htable, hcounter, hview, hdrive, hregen, hdemand', hage', fun h => absurd rfl h⟩,
    ⟨hslip, hrecord, hpublished, hprev, hlength, hpairs, nofun⟩,
    ⟨hselection, hshares, htorque, ⟨Nat.zero_le _, Nat.zero_le _⟩, htarget⟩,
    ⟨hbus, fun h => absurd rfl h, hcounters, hpmk⟩⟩

/-! ## Which commands change which registers -/

/-- The port's registers apart from what a transaction sends and counts. -/
def LocalPort.registers (p : LocalPort) : (Nat × Nat × Nat) × Int × Nat × Nat × Nat :=
  ((p.first, p.last, p.cursor), p.demand, p.driveLimit, p.regenLimit, p.demandAge)

/-- The counters of the share bus interface. -/
def ShareBus.counters (b : ShareBus) : Nat × Nat × Nat := (b.idleWatch, b.service, b.quiet)

/-- The registers that few commands change: those of the port, the wheels, the Slip Unit, the Handover Unit, the
Allocation Engine and the share bus interface. -/
def State.registers (s : State) :
    ((Nat × Nat × Nat) × Int × Nat × Nat × Nat) × WheelUnit × SlipUnit × HandoverUnit × AllocationEngine × Nat × Nat × Nat :=
  (s.lp.registers, s.wsu, s.slu, s.hou, s.ale, s.sbi.counters)

/-- The commands that set a register of the port. -/
def setsPort : Instr → Bool
  | .setWindow _ _ | .writeWords _ _ | .readWords _ _ | .setDemand _ _ | .setLimits _ _ | .start _ _
  | .periodTimerExpiry _ | .parameterWordTaken _ _ => true
  | _ => false

/-- The commands that change a wheel or the filter. -/
def setsWheels : Instr → Bool
  | .periodTimerExpiry _ | .wheelPulse _ _ => true
  | _ => false

/-- The commands that change the Handover Unit. -/
def setsHandover : Instr → Bool
  | .start _ _ | .stop _ _ | .viewLatch | .handoverStep | .allocationComputation | .frameReceived _ => true
  | _ => false

/-- The commands that change a counter of the share bus interface. -/
def setsBus : Instr → Bool
  | .start _ _ | .stop _ _ | .periodTimerExpiry _ | .commandShaping | .frameReceived _ => true
  | _ => false

theorem State.registers_eq {s : State} {p : (Nat × Nat × Nat) × Int × Nat × Nat × Nat} {w : WheelUnit} {u : SlipUnit}
    {h : HandoverUnit} {a : AllocationEngine} {b : Nat × Nat × Nat} (hlp : s.lp.registers = p) (hwsu : s.wsu = w)
    (hslu : s.slu = u) (hhou : s.hou = h) (hale : s.ale = a) (hsbi : s.sbi.counters = b) :
    s.registers = (p, w, u, h, a, b) := by
  rw [State.registers, hlp, hwsu, hslu, hhou, hale, hsbi]

theorem State.startPending_registers (s : State) : s.startPending.registers = s.registers := by
  rw [s.startPending_frame]
  rfl

theorem State.takeGap_registers (s : State) : s.takeGap.registers = s.registers := by
  unfold State.takeGap
  dsimp only
  split
  · rfl
  · exact State.startPending_registers _

theorem State.loseContention_registers (s : State) : s.loseContention.registers = s.registers := by
  unfold State.loseContention
  split
  · rfl
  · dsimp only
    split
    · rfl
    · split <;> rfl

theorem State.abandonFrame_registers (s : State) : s.abandonFrame.registers = s.registers := by
  unfold State.abandonFrame
  split <;> rfl

theorem State.completeFrame_registers (s : State) : s.completeFrame.registers = s.registers := by
  unfold State.completeFrame
  split <;> rfl

theorem effect_registers {c : Instr} (hclear : clears c = false) (s : State) : (effect c s).registers =
    (cond (setsPort c) (effect c s).lp.registers s.lp.registers,
      cond (setsWheels c) (effect c s).wsu s.wsu,
      cond (c == .slipEvaluation) (effect c s).slu s.slu,
      cond (setsHandover c) (effect c s).hou s.hou,
      cond (c == .allocationComputation) (effect c s).ale s.ale,
      cond (setsBus c) (effect c s).sbi.counters s.sbi.counters) := by
  cases c with
  | powerOnReset _ _ | rstnAssert | rstnRelease _ _ | supplyOrClockInvalid | resetStation _ _ => exact nomatch hclear
  | start arg words =>
    have hframe := State.takeStart_frame (s.deliver (1 + words.length))
    exact State.registers_eq rfl (of_frame State.wsu hframe rfl) (of_frame State.slu hframe rfl) rfl
      (of_frame State.ale hframe rfl) rfl
  | stop arg words => exact of_frame State.registers (State.takeStop_frame (s.deliver _)) rfl
  | setWindow arg words => exact of_frame State.registers (State.takeWindow_frame (s.deliver _) words) rfl
  | setDemand mode words => exact of_frame State.registers (State.takeDemand_frame (s.deliver _) mode words) rfl
  | setLimits flag words => exact of_frame State.registers (State.takeLimits_frame (s.deliver _) flag words) rfl
  | writeWords count words => exact of_frame State.registers (s.takeWriteWords_frame count words) rfl
  | parameterWordTaken count word => exact of_frame State.registers (s.takeParameterWord_frame count word) rfl
  | periodTimerExpiry elapsed =>
    have hframe := s.takeExpiry_frame elapsed
    exact State.registers_eq rfl rfl (of_frame State.slu hframe rfl) (of_frame State.hou hframe rfl)
      (of_frame State.ale hframe rfl) rfl
  | wheelPulse wheel elapsed => exact of_frame State.registers (s.takePulse_frame wheel elapsed) rfl
  | readWords _ _ | readStatus _ _ | readSnapshot _ _ | readPeer _ _ | readDiag _ _ | unknownCommand _ _ _
  | incompleteTransaction | pmkPulseEnd => rfl
  | viewLatch => 
    unfold effect
    dsimp only
    split
    exacts [of_frame State.registers s.latchView_frame rfl, rfl]
  | slipEvaluation => 
    unfold effect
    dsimp only
    split <;> rfl
  | handoverStep => 
    unfold effect
    dsimp only
    split
    exacts [of_frame State.registers s.stepHandover_frame rfl, rfl]
  | allocationComputation =>
    unfold effect
    dsimp only
    split
    · have hframe := s.allocate_frame
      exact State.registers_eq (of_frame (·.lp.registers) hframe rfl) (of_frame State.wsu hframe rfl)
        (of_frame State.slu hframe rfl) rfl rfl (of_frame (·.sbi.counters) hframe rfl)
    · rfl
  | commandShaping => 
    unfold effect
    dsimp only
    split
    exacts [of_frame State.registers s.shapeCommand_frame rfl, rfl]
  | interframeGap =>
    exact onBus_keeps (P := fun t => t.registers = s.registers) rfl fun _ => s.takeGap_registers
  | firstStartBitAfterGap => exact onBus_keeps (P := fun t => t.registers = s.registers) rfl fun _ => rfl
  | contentionLost => exact s.loseContention_registers
  | txError => exact s.abandonFrame_registers
  | frameTxComplete => exact s.completeFrame_registers
  | frameReceived bytes =>
    unfold effect State.onBus
    dsimp only
    split
    exacts [rfl, of_frame State.registers (s.receiveFrame_frame bytes) rfl]

theorem effect_port {c : Instr} (hclear : clears c = false) (h : setsPort c = false) (s : State) :
    (effect c s).lp.registers = s.lp.registers :=
  (congrArg (·.1) (effect_registers hclear s)).trans (by simp only [h, cond_false])

theorem effect_wheels {c : Instr} (hclear : clears c = false) (h : setsWheels c = false) (s : State) :
    (effect c s).wsu = s.wsu :=
  (congrArg (·.2.1) (effect_registers hclear s)).trans (by simp only [h, cond_false])

theorem effect_slip {c : Instr} (hclear : clears c = false) (h : c ≠ .slipEvaluation) (s : State) :
    (effect c s).slu = s.slu :=
  (congrArg (·.2.2.1) (effect_registers hclear s)).trans (by simp only [beq_false_of_ne h, cond_false])

theorem effect_handover {c : Instr} (hclear : clears c = false) (h : setsHandover c = false) (s : State) :
    (effect c s).hou = s.hou :=
  (congrArg (·.2.2.2.1) (effect_registers hclear s)).trans (by simp only [h, cond_false])

theorem effect_shares {c : Instr} (hclear : clears c = false) (h : c ≠ .allocationComputation) (s : State) :
    (effect c s).ale = s.ale :=
  (congrArg (·.2.2.2.2.1) (effect_registers hclear s)).trans (by simp only [beq_false_of_ne h, cond_false])

theorem effect_busCounters {c : Instr} (hclear : clears c = false) (h : setsBus c = false) (s : State) :
    (effect c s).sbi.counters = s.sbi.counters :=
  (congrArg (·.2.2.2.2.2) (effect_registers hclear s)).trans (by simp only [h, cond_false])

end Sys2Proof.Machine
end

section
/-! PROOFS. Station control and the port stay in their ranges (R1, R169, R173, R180, R181). -/

namespace Sys2Proof.Machine

/-! ## Station control (R1, R9, R11) -/

/-- The refusal record and the listen counter. -/
def State.controlRange (s : State) : Prop :=
  (s.ctl.refusalCode ≤ 6 ∧ s.ctl.refusalIndex ≤ 148)
  ∧ (s.ctl.listenCounter ≤ 250 ∧ (s.ctl.state = .listen → s.ctl.listenCounter < s.param Idx.lListen))

theorem State.controlRange_congr {s t : State} (hctl : t.ctl = s.ctl)
    (hparam : s.ctl.state = .listen → t.param = s.param) (h : s.controlRange) : t.controlRange := by
  obtain ⟨hrefusal, hcounter, hlisten⟩ := h
  rw [State.controlRange, hctl]
  exact ⟨hrefusal, hcounter, fun hs => by rw [hparam hs]; exact hlisten hs⟩

theorem State.param_lListen_pos (s : State) : 0 < s.param Idx.lListen :=
  Nat.lt_of_lt_of_le (by decide) (s.param_le Idx.lListen (by decide)).1

/-- A state that has left LISTEN, or never was there, keeps its counter only. -/
theorem State.controlRange_of_state {s t : State} {l : LifeState}
    (hctl : t.ctl.refusalCode = s.ctl.refusalCode ∧ t.ctl.refusalIndex = s.ctl.refusalIndex
      ∧ t.ctl.listenCounter = s.ctl.listenCounter ∧ t.ctl.state = l) (hl : l ≠ .listen) (h : s.controlRange) :
    t.controlRange := by
  obtain ⟨hcode, hindex, hcounter, rfl⟩ := hctl
  obtain ⟨hrefusal, hbound, -⟩ := h
  refine ⟨?_, ?_, fun hs => absurd hs hl⟩
  · rwa [hcode, hindex]
  · rwa [hcounter]

theorem State.takeStart_controlRange {s : State} (h : s.controlRange) : s.takeStart.controlRange := by
  have hentered (u : State) : u.enterListen.controlRange :=
    ⟨⟨Nat.zero_le _, Nat.zero_le _⟩, Nat.zero_le _, fun _ => u.enterListen.param_lListen_pos⟩
  rcases s.takeStart_cases with ⟨-, heq⟩ | ⟨-, heq⟩ | ⟨-, -, heq⟩ | ⟨code, index, hc, hr, heq⟩ | ⟨-, heq⟩ <;> rw [heq]
  · exact h
  · exact h
  · exact hentered _
  · obtain ⟨-, hcode, hindex, -⟩ := hr.record
    exact ⟨⟨hcode, hindex⟩, h.2.1, fun hs => nomatch hc.symm.trans hs⟩
  · exact hentered s

theorem State.takeStop_controlRange {s : State} (h : s.controlRange) : s.takeStop.controlRange := by
  rcases s.takeStop_cases with ⟨-, heq⟩ | ⟨-, heq⟩ | ⟨-, heq⟩ | ⟨-, heq⟩ <;> rw [heq]
  · exact h
  · exact h
  · exact State.controlRange_of_state (s := s) ⟨rfl, rfl, rfl, rfl⟩ nofun h
  · exact State.controlRange_of_state (s := s) ⟨rfl, rfl, rfl, rfl⟩ nofun h

theorem State.tested_controlRange {s : State} (h : s.controlRange) : s.tested.controlRange := by
  obtain ⟨hrefusal, hbound, hlisten⟩ := h
  have hmax := (s.param_le Idx.lListen (by decide)).2
  rcases s.tested_cases with ⟨hs, -, heq⟩ | ⟨hs, hends, heq⟩ | ⟨-, -, heq⟩ | ⟨-, -, heq⟩ <;> rw [heq]
  · exact ⟨hrefusal, (hlisten hs).trans_le hmax, nofun⟩
  · have hlt : s.ctl.listenCounter + 1 < s.param Idx.lListen := Nat.lt_of_not_le fun hle => hends (.inr hle)
    exact ⟨hrefusal, (hlisten hs).trans_le hmax, fun _ => hlt⟩
  · exact ⟨hrefusal, hbound, nofun⟩
  · exact ⟨hrefusal, hbound, hlisten⟩

theorem effect_controlRange {c : Instr} (hclear : clears c = false) {s : State} (h : s.controlRange) :
    (effect c s).controlRange := by
  have hparam (hs : s.ctl.state = .listen) : (effect c s).param = s.param := effect_param hclear (hs ▸ nofun)
  rcases effect_cases c s with hc | hs | ⟨-, hc, words, p, u, hw⟩ | ⟨arg, words, rfl⟩ | ⟨arg, words, rfl⟩ | ⟨-, hv⟩
    | ⟨-, hh⟩ | ⟨-, hsh⟩ | ⟨bytes, -, hc, hf⟩
  · exact absurd (hclear.symm.trans hc) Bool.false_ne_true
  · exact State.controlRange_congr hs.ctl hparam h
  · exact State.controlRange_congr (by rw [hw]) hparam h
  · exact State.takeStart_controlRange (s := s.deliver _) h
  · exact State.takeStop_controlRange (s := s.deliver _) h
  · exact State.controlRange_congr (by rw [hv, s.latchView_frame]) hparam h
  · exact State.controlRange_congr (by rw [hh, s.stepHandover_frame]) hparam h
  · have hp : s.shapeCommand.param = s.tested.param :=
      State.param_of_words (by rw [s.shapeCommand_frame, s.tested_frame]) (by rw [s.shapeCommand_ctl])
    rw [hsh]
    exact State.controlRange_congr s.shapeCommand_ctl (fun _ => hp) (State.tested_controlRange h)
  · rcases s.receiveFrame_ctl bytes with heq | ⟨-, l, heq, hl⟩
    · exact State.controlRange_congr (by rw [hf, heq]) hparam h
    · rcases hl with rfl | ⟨-, rfl⟩
      · obtain ⟨hrefusal, hbound, hlisten⟩ := h
        refine ⟨?_, ?_, fun hs => ?_⟩
        · rwa [hf, heq]
        · rwa [hf, heq]
        · rw [hf, heq] at hs
          rw [hparam hs, hf, heq]
          exact hlisten hs
      · rw [hf]
        exact State.controlRange_of_state (s := s) (l := .stopping) (by rw [heq]; exact ⟨rfl, rfl, rfl, rfl⟩) nofun h

/-! ## The window, the cursor and the stored values (R169, R173, R174) -/

/-- The window with its cursor, and the values the host has stored. -/
def LocalPort.inRange (p : LocalPort) : Prop :=
  (p.first ≤ p.last ∧ p.last ≤ 148 ∧ p.first ≤ p.cursor ∧ p.cursor ≤ p.last + 1)
  ∧ (p.demand.natAbs ≤ 20000 ∧ p.driveLimit ≤ 20000 ∧ p.regenLimit ≤ 20000 ∧ p.demandAge ≤ 255)

theorem LocalPort.inRange_congr {p q : LocalPort} (h : q.registers = p.registers) (hp : p.inRange) : q.inRange := by
  simp only [LocalPort.registers, Prod.mk.injEq] at h
  obtain ⟨⟨h1, h2, h3⟩, h4, h5, h6, h7⟩ := h
  simpa only [LocalPort.inRange, h1, h2, h3, h4, h5, h6, h7] using hp

theorem State.writeAtCursor_inRange {s : State} (h : s.lp.inRange) (w : Word) : (s.writeAtCursor w).lp.inRange := by
  obtain ⟨⟨hwindow, hlast, hfirst, hcursor⟩, hvalues⟩ := h
  rcases s.writeAtCursor_cases w with ⟨-, heq⟩ | ⟨hin, -, heq⟩ | ⟨hin, -, heq⟩ <;> rw [heq]
  · exact ⟨⟨hwindow, hlast, hfirst, hcursor⟩, hvalues⟩
  · exact ⟨⟨hwindow, hlast, Nat.le_succ_of_le hfirst, Nat.succ_le_succ hin⟩, hvalues⟩
  · exact ⟨⟨hwindow, hlast, Nat.le_succ_of_le hfirst, Nat.succ_le_succ hin⟩, hvalues⟩

theorem State.takeParameterWord_inRange {s : State} (h : s.lp.inRange) (count : Byte) (w : Word) :
    (s.takeParameterWord count w).lp.inRange := by
  by_cases hacts : s.ctl.state = .config ∧ s.lp.wordsTaken < count.toNat
  · rw [State.takeParameterWord_of_acting hacts.1 hacts.2]
    exact LocalPort.inRange_congr rfl (State.writeAtCursor_inRange h w)
  · rw [State.takeParameterWord_of_idle (by rwa [not_and_or, Nat.not_lt] at hacts)]
    exact h

theorem State.takeParameterWords_inRange {s : State} (h : s.lp.inRange) (count : Byte) (words : List Word) :
    (s.takeParameterWords count words).lp.inRange := by
  induction words generalizing s with
  | nil => exact h
  | cons w words ih => exact ih (State.takeParameterWord_inRange h count w)

/-- SET_DEMAND stores a demand within ±D_max, or nothing (R178). -/
theorem State.takeDemand_lp (s : State) (mode : Byte) (words : List Word) :
    (s.takeDemand mode words).lp = s.lp
    ∨ ∃ (m : Mode) (v : Int), v.natAbs ≤ 20000
        ∧ (s.takeDemand mode words).lp = { s.lp with demand := v, mode := m, demandAge := 0 } := by
  unfold State.takeDemand
  split
  next m w _ _ =>
    have hmax : s.param Idx.dMax ≤ 20000 := (s.param_le Idx.dMax (by decide)).2
    obtain ⟨hlo, hhi⟩ := holdInt_bounds (lo := -(s.param Idx.dMax : Int)) (hi := s.param Idx.dMax) (by omega) w.toInt
    refine .inr ⟨m, holdInt (-(s.param Idx.dMax : Int)) (s.param Idx.dMax) w.toInt, by omega, ?_⟩
    dsimp only
    split <;> rfl
  next => exact .inl rfl

theorem holdLimit_le (peak : Nat) (w : Word) : holdLimit peak w ≤ peak := by
  have h := holdLimit_cast peak w
  omega

/-- SET_LIMITS stores limits within their wheel peaks, or nothing (R180). -/
theorem State.takeLimits_lp (s : State) (flag : Byte) (words : List Word) :
    (s.takeLimits flag words).lp = s.lp
    ∨ ∃ (d r : Nat) (i : Bool), d ≤ s.param Idx.drivePeak ∧ r ≤ s.param Idx.regenPeak
        ∧ (s.takeLimits flag words).lp = { s.lp with driveLimit := d, regenLimit := r, immediate := i } := by
  unfold State.takeLimits
  split
  next x y _ =>
    split
    · exact .inl rfl
    · refine .inr ⟨_, _, decide (flag.toNat = 1), holdLimit_le _ x, holdLimit_le _ y, ?_⟩
      dsimp only
      split <;> rfl
  next => exact .inl rfl

/-- SET_WINDOW sets a window within the store with the cursor at its start, or nothing (R173). -/
theorem State.takeWindow_lp (s : State) (words : List Word) :
    (s.takeWindow words).lp = s.lp
    ∨ ∃ first last : Nat, first ≤ last ∧ last ≤ 148
        ∧ (s.takeWindow words).lp = { s.lp with first := first, last := last, cursor := first } := by
  unfold State.takeWindow
  split
  next x y _ =>
    split
    · exact .inl rfl
    next hgood => exact .inr ⟨x.toNat, y.toNat, by omega, by omega, rfl⟩
  next => exact .inl rfl

theorem State.takeStart_inRange {s : State} (h : s.lp.inRange) : s.takeStart.lp.inRange := by
  obtain ⟨hwindow, hdemand, hdrive, hregen, hage⟩ := h
  rcases s.takeStart_cases with ⟨-, heq⟩ | ⟨-, heq⟩ | ⟨-, -, heq⟩ | ⟨code, index, -, -, heq⟩ | ⟨-, heq⟩ <;> rw [heq]
  · exact ⟨hwindow, hdemand, hdrive, hregen, hage⟩
  · exact ⟨hwindow, hdemand, hdrive, hregen, hage⟩
  · exact ⟨hwindow, hdemand, (Nat.min_le_left _ _).trans hdrive, (Nat.min_le_left _ _).trans hregen, hage⟩
  · exact ⟨hwindow, hdemand, hdrive, hregen, hage⟩
  · exact ⟨hwindow, hdemand, hdrive, hregen, hage⟩

theorem effect_inRange {c : Instr} (hclear : clears c = false) {s : State} (h : s.lp.inRange) :
    (effect c s).lp.inRange := by
  cases hport : setsPort c with
  | false => exact LocalPort.inRange_congr (effect_port hclear hport s) h
  | true =>
    have hdeliver (n : Nat) : (s.deliver n).lp.inRange := h
    have ⟨⟨hwindow, hlast, hfirst, hcursor⟩, hdemand, hdrive, hregen, hage⟩ := h
    cases c with
    | setWindow arg words =>
      rcases State.takeWindow_lp (s.deliver (1 + words.length)) words with heq | ⟨x, y, hxy, hy, heq⟩
      · exact LocalPort.inRange_congr (congrArg LocalPort.registers heq) (hdeliver _)
      · rw [effect, heq]
        exact ⟨⟨hxy, hy, Nat.le_refl x, Nat.le_succ_of_le hxy⟩, hdemand, hdrive, hregen, hage⟩
    | writeWords count words =>
      show (s.takeWriteWords count words).lp.inRange
      rw [s.takeWriteWords_eq]
      refine LocalPort.inRange_congr ?_ (State.takeParameterWords_inRange h count (words.drop s.lp.wordsTaken))
      dsimp only
      split <;> rfl
    | readWords count words =>
      exact ⟨⟨hwindow, hlast, Nat.le_min.2 ⟨Nat.le_add_right_of_le hfirst, Nat.le_succ_of_le hwindow⟩, Nat.min_le_right _ _⟩,
        hdemand, hdrive, hregen, hage⟩
    | setDemand mode words =>
      rcases State.takeDemand_lp (s.deliver (1 + words.length)) mode words with heq | ⟨m, v, hv, heq⟩
      · exact LocalPort.inRange_congr (congrArg LocalPort.registers heq) (hdeliver _)
      · rw [effect, heq]
        exact ⟨⟨hwindow, hlast, hfirst, hcursor⟩, hv, hdrive, hregen, Nat.zero_le _⟩
    | setLimits flag words =>
      rcases State.takeLimits_lp (s.deliver (1 + words.length)) flag words with heq | ⟨d, r, i, hd, hr, heq⟩
      · exact LocalPort.inRange_congr (congrArg LocalPort.registers heq) (hdeliver _)
      · rw [effect, heq]
        exact ⟨⟨hwindow, hlast, hfirst, hcursor⟩, hdemand, hd.trans (State.param_le _ Idx.drivePeak (by decide)).2,
          hr.trans (State.param_le _ Idx.regenPeak (by decide)).2, hage⟩
    | start arg words => exact State.takeStart_inRange (hdeliver _)
    | periodTimerExpiry elapsed =>
      refine LocalPort.inRange_congr (p := { s.lp with demandAge := growTo 255 s.lp.demandAge 1 })
        (of_frame (·.lp.registers) (s.takeExpiry_frame elapsed) rfl) ?_
      exact ⟨⟨hwindow, hlast, hfirst, hcursor⟩, hdemand, hdrive, hregen, growTo_le _ _ _⟩
    | parameterWordTaken count word => exact State.takeParameterWord_inRange h count word
    | _ => exact nomatch hport

/-! ## The limits outside CONFIG (R181) -/

/-- Outside CONFIG each limit of the port lies within its wheel peak. -/
def State.limitsRange (s : State) : Prop := s.ctl.state ≠ .config →
  s.lp.driveLimit ≤ s.param Idx.drivePeak ∧ s.lp.regenLimit ≤ s.param Idx.regenPeak

theorem State.takeStart_limitsRange {s : State} (h : s.limitsRange) : s.takeStart.limitsRange := by
  have hparam : s.takeStart.param = s.param :=
    State.param_of_words (of_frame (·.ps.words) s.takeStart_frame rfl) (of_frame (·.ctl.strap) s.takeStart_frame rfl)
  rw [State.limitsRange, hparam]
  rcases s.takeStart_cases with ⟨-, heq⟩ | ⟨-, heq⟩ | ⟨-, -, heq⟩ | ⟨code, index, -, -, heq⟩ | ⟨hs, heq⟩ <;> rw [heq]
  · exact h
  · exact h
  · exact fun _ => ⟨Nat.min_le_right _ _, Nat.min_le_right _ _⟩
  · exact h
  · exact fun _ => h (hs ▸ nofun)

/-- Outside CONFIG a command leaves the limits, or stores limits within the wheel peaks. -/
theorem effect_limits {c : Instr} (hclear : clears c = false) {s : State} (hs : s.ctl.state ≠ .config) :
    ((effect c s).lp.driveLimit = s.lp.driveLimit ∧ (effect c s).lp.regenLimit = s.lp.regenLimit)
    ∨ ((effect c s).lp.driveLimit ≤ s.param Idx.drivePeak ∧ (effect c s).lp.regenLimit ≤ s.param Idx.regenPeak) := by
  cases hport : setsPort c with
  | false =>
    have h := effect_port hclear hport s
    simp only [LocalPort.registers, Prod.mk.injEq] at h
    obtain ⟨-, -, hdrive, hregen, -⟩ := h
    exact .inl ⟨hdrive, hregen⟩
  | true =>
    cases c with
    | setWindow arg words =>
      left
      rcases State.takeWindow_lp (s.deliver (1 + words.length)) words with heq | ⟨x, y, -, -, heq⟩
      all_goals
        rw [effect, heq]
        exact ⟨rfl, rfl⟩
    | writeWords count words => exact .inl (by rw [effect, State.takeWriteWords_of_refused hs]; exact ⟨rfl, rfl⟩)
    | parameterWordTaken count word => exact .inl (by rw [effect, State.takeParameterWord_of_idle (.inl hs)]; exact ⟨rfl, rfl⟩)
    | readWords count words => exact .inl ⟨rfl, rfl⟩
    | setDemand mode words =>
      left
      rcases State.takeDemand_lp (s.deliver (1 + words.length)) mode words with heq | ⟨m, v, hv, heq⟩
      all_goals
        rw [effect, heq]
        exact ⟨rfl, rfl⟩
    | setLimits flag words =>
      rcases State.takeLimits_lp (s.deliver (1 + words.length)) flag words with heq | ⟨d, r, i, hd, hr, heq⟩ <;> rw [effect, heq]
      · exact .inl ⟨rfl, rfl⟩
      · exact .inr ⟨hd, hr⟩
    | start arg words =>
      rcases State.takeStart_cases (s.deliver (1 + words.length)) with ⟨-, heq⟩ | ⟨-, heq⟩ | ⟨hc, -⟩ | ⟨_, _, hc, -⟩ | ⟨-, heq⟩
      · exact .inl (by rw [effect, heq]; exact ⟨rfl, rfl⟩)
      · exact .inl (by rw [effect, heq]; exact ⟨rfl, rfl⟩)
      · exact absurd hc hs
      · exact absurd hc hs
      · exact .inl (by rw [effect, heq]; exact ⟨rfl, rfl⟩)
    | periodTimerExpiry elapsed =>
      exact .inl ⟨of_frame (·.lp.driveLimit) (s.takeExpiry_frame elapsed) rfl, of_frame (·.lp.regenLimit) (s.takeExpiry_frame elapsed) rfl⟩
    | _ => exact nomatch hport

theorem effect_limitsRange {c : Instr} (hclear : clears c = false) {s : State} (h : s.limitsRange) :
    (effect c s).limitsRange := by
  intro hne
  rcases effect_ne_config hclear hne with hs | ⟨arg, words, rfl⟩
  · rw [effect_param hclear hs]
    rcases effect_limits hclear hs with ⟨hdrive, hregen⟩ | hheld
    · rw [hdrive, hregen]
      exact h hs
    · exact hheld
  · exact State.takeStart_limitsRange (s := s.deliver _) h hne

/-- The block's range predicate, part by part. -/
theorem State.portRange_iff (s : State) : s.portRange ↔ s.controlRange ∧ s.lp.inRange ∧ s.limitsRange := by
  simp only [State.portRange, State.controlRange, LocalPort.inRange, State.limitsRange]
  tauto

theorem effect_portRange {c : Instr} (hclear : clears c = false) {s : State} (h : s.portRange) :
    (effect c s).portRange := by
  rw [State.portRange_iff] at h ⊢
  obtain ⟨hcontrol, hport, hlimits⟩ := h
  exact ⟨effect_controlRange hclear hcontrol, effect_inRange hclear hport, effect_limitsRange hclear hlimits⟩

end Sys2Proof.Machine
end

section
/-! PROOFS. The wheels stay in their ranges, with at most one of them silent (R62 to R72). -/

namespace Sys2Proof.Machine

/-! ## Which commands change the wheels -/

theorem effect_wsu {c : Instr} (hclear : clears c = false) (s : State) :
    (effect c s).wsu = s.wsu ∨ (∃ elapsed, c = .periodTimerExpiry elapsed) ∨ ∃ wheel elapsed, c = .wheelPulse wheel elapsed := by
  cases hset : setsWheels c with
  | false => exact .inl (effect_wheels hclear hset s)
  | true =>
    cases c with
    | periodTimerExpiry elapsed => exact .inr (.inl ⟨elapsed, rfl⟩)
    | wheelPulse wheel elapsed => exact .inr (.inr ⟨wheel, elapsed, rfl⟩)
    | _ => exact nomatch hset

/-! ## A pulse and a sample of one wheel -/

theorem WheelHistory.pulse_inRange {w : WheelHistory} (h : w.inRange) (now : BitVec 32) : (w.pulse now).inRange := by
  obtain ⟨-, -, hdelta⟩ := h
  refine ⟨growTo_le _ _ _, Nat.zero_le _, ?_⟩
  show (w.nextDelta now).all _ = true
  unfold WheelHistory.nextDelta
  split
  · exact hdelta
  · split
    · rfl
    · rw [Option.all_some, decide_eq_true_eq]
      unfold usBetween longestGap
      omega

theorem WheelHistory.atSample_inRange {w : WheelHistory} (h : w.inRange) (now : BitVec 32) : (w.atSample now).inRange := by
  obtain ⟨hpulses, -, hdelta⟩ := h
  exact ⟨hpulses, growTo_le _ _ _, hdelta⟩

theorem trimSpeed_le (v : Nat) (trim : Int) : trimSpeed v trim ≤ 4095 := Nat.min_le_left _ _

theorem axleSpeed_le {silent0 silent1 : Bool} {v0 v1 n : Nat} (h0 : v0 ≤ n) (h1 : v1 ≤ n) :
    axleSpeed silent0 silent1 v0 v1 ≤ n := by
  unfold axleSpeed
  split
  · exact h1
  · split <;> omega

theorem mem_pushWindow {w : List Nat} {x v : Nat} (h : v ∈ pushWindow w x) : v ∈ w ∨ v = x := by
  simpa using List.mem_of_mem_drop h

/-- The mean of entries within a bound is within it. -/
theorem windowMean_le {w : List Nat} {bound : Nat} (h : ∀ v ∈ w, v ≤ bound) (n : Nat) : windowMean w n ≤ bound := by
  obtain ⟨older, newest, rfl, -, hmean⟩ := windowMean_spec w n
  have hsum := List.sum_le_card_nsmul newest bound fun v hv => h v (List.mem_append_right _ hv)
  rw [hmean]
  exact Nat.div_le_of_le_mul hsum

/-! ## The unit (R66, R69, R71) -/

/-- The block's range predicate, on the unit alone. -/
def WheelUnit.ranged (u : WheelUnit) : Prop :=
  u.wheel0.inRange ∧ u.wheel1.inRange
  ∧ u.windowA.length ≤ 8 ∧ u.windowB.length ≤ 8
  ∧ (∀ v ∈ u.windowA, v ≤ 4095) ∧ (∀ v ∈ u.windowB, v ≤ 4095)
  ∧ u.sample.speed0 ≤ 4095 ∧ u.sample.speed1 ≤ 4095 ∧ u.sample.axle ≤ 4095 ∧ u.sample.filtered ≤ 4095

theorem State.sampledUnit_ranged {s : State} (h : s.wsu.ranged) (elapsed : BitVec 32) : (s.sampledUnit elapsed).ranged := by
  obtain ⟨h0, h1, -, -, hA, hB, -⟩ := h
  have hv (wheel : Wheel) : s.sampledSpeed elapsed wheel ≤ 4095 := trimSpeed_le _ _
  have haxle := axleSpeed_le (silent0 := s.silentAfter elapsed .wheel0 .wheel1)
    (silent1 := s.silentAfter elapsed .wheel1 .wheel0) (hv .wheel0) (hv .wheel1)
  have hpush {w : List Nat} {x : Nat} (hw : ∀ v ∈ w, v ≤ 4095) (hx : x ≤ 4095) : ∀ v ∈ pushWindow w x, v ≤ 4095 :=
    fun v hmem => (mem_pushWindow hmem).elim (hw v) fun h => h ▸ hx
  have hlength (w : List Nat) (x : Nat) : (pushWindow w x).length ≤ 8 := by
    rw [(pushWindow_spec w x).2]
    exact Nat.min_le_left _ _
  have hA' := hpush hA haxle
  have hB' := hpush hB (windowMean_le hA' (s.param Idx.nA))
  rw [s.sampledUnit_eq]
  exact ⟨WheelHistory.atSample_inRange h0 (s.wsu.usCount + elapsed),
    WheelHistory.atSample_inRange h1 (s.wsu.usCount + elapsed), hlength _ _, hlength _ _, hA', hB',
    hv _, hv _, haxle, windowMean_le hB' _⟩

theorem State.takePulse_ranged {s : State} (h : s.wsu.ranged) (wheel : Wheel) (elapsed : BitVec 32) :
    (s.takePulse wheel elapsed).wsu.ranged := by
  obtain ⟨h0, h1, hrest⟩ := h
  cases wheel with
  | wheel0 => exact ⟨WheelHistory.pulse_inRange h0 _, h1, hrest⟩
  | wheel1 => exact ⟨h0, WheelHistory.pulse_inRange h1 _, hrest⟩

theorem effect_wheelRange {c : Instr} (hclear : clears c = false) {s : State} (h : s.wheelRange) :
    (effect c s).wheelRange := by
  show (effect c s).wsu.ranged
  rcases effect_wsu hclear s with heq | ⟨elapsed, rfl⟩ | ⟨wheel, elapsed, rfl⟩
  · rw [heq]
    exact h
  · have heq : (effect (.periodTimerExpiry elapsed) s).wsu = s.sampledUnit elapsed := by rw [effect, s.takeExpiry_eq]
    rw [heq]
    exact State.sampledUnit_ranged h elapsed
  · exact State.takePulse_ranged h wheel elapsed

/-- At most one wheel is silent after a sample: a condition is established only while none stands (R69). -/
theorem State.sampledUnit_silent {s : State} (h : s.silentInv) (elapsed : BitVec 32) :
    ¬((s.sampledUnit elapsed).wheel0.silent = true ∧ (s.sampledUnit elapsed).wheel1.silent = true) := by
  rw [s.sampledUnit_eq]
  show ¬(s.silentAfter elapsed .wheel0 .wheel1 = true ∧ s.silentAfter elapsed .wheel1 .wheel0 = true)
  rw [s.silentAfter_iff elapsed (wheel := .wheel0) (other := .wheel1) nofun,
    s.silentAfter_iff elapsed (wheel := .wheel1) (other := .wheel0) nofun]
  rintro ⟨h0 | ⟨hdue0, -, hclear1⟩, h1 | ⟨-, hnot0, hclear0⟩⟩
  · exact h ⟨h0, h1⟩
  · exact nomatch h0.symm.trans hclear0
  · exact nomatch h1.symm.trans hclear1
  · exact hnot0 hdue0

theorem effect_silentInv {c : Instr} (hclear : clears c = false) {s : State} (h : s.silentInv) : (effect c s).silentInv := by
  rcases effect_wsu hclear s with heq | ⟨elapsed, rfl⟩ | ⟨wheel, elapsed, rfl⟩
  · rwa [State.silentInv, heq]
  · have heq : (effect (.periodTimerExpiry elapsed) s).wsu = s.sampledUnit elapsed := by rw [effect, s.takeExpiry_eq]
    rw [State.silentInv, heq]
    exact State.sampledUnit_silent h elapsed
  · cases wheel with
    | wheel0 => exact fun hboth => nomatch hboth.1
    | wheel1 => exact fun hboth => nomatch hboth.2

end Sys2Proof.Machine
end

section
/-! PROOFS. The peer table and the view stay in their ranges (R41, R48, R55, R181). -/

namespace Sys2Proof.Machine

/-! ## Records (R31, R34, R41, R44) -/

theorem PeerRecord.inRange_iff (r : PeerRecord) : r.inRange = true ↔ r.frame.legal = true ∧ r.missed ≤ 255 ∧ r.age ≤ 4095 := by
  rw [PeerRecord.inRange, Bool.and_eq_true, decide_eq_true_eq]

/-- A record that may be absent lies in its ranges where it is present. -/
theorem recordInRange_iff {o : Option PeerRecord} : o.all PeerRecord.inRange = true ↔ ∀ r, o = some r → r.inRange = true := by
  cases o <;> simp

theorem PeerRecord.accept_inRange {f : ShareFrame} (h : f.legal = true) (held : Option PeerRecord) :
    (PeerRecord.accept held f).inRange = true :=
  (PeerRecord.inRange_iff _).2 ⟨h, growTo_le _ _ _, Nat.zero_le _⟩

theorem PeerEntry.grow_inRange {e : PeerEntry} (h : e.record.all PeerRecord.inRange = true) :
    e.grow.record.all PeerRecord.inRange = true := by
  rw [recordInRange_iff] at h ⊢
  intro r hr
  obtain ⟨q, hq, rfl⟩ := Option.map_eq_some_iff.1 hr
  obtain ⟨hlegal, hmissed, -⟩ := q.inRange_iff.1 (h q hq)
  exact (PeerRecord.inRange_iff _).2 ⟨hlegal, hmissed, growTo_le _ _ _⟩

/-- The records of the table, and of a view. -/
def PeerTable.recordsInRange (pt : PeerTable) : Prop := ∀ e ∈ pt.entries, e.record.all PeerRecord.inRange = true

def PeriodView.recordsInRange (v : PeriodView) : Prop := ∀ e ∈ v.entries, e.record.all PeerRecord.inRange = true

theorem State.acceptFrame_recordsInRange {s : State} (h : s.pt.recordsInRange) {f : ShareFrame} (hf : f.legal = true) :
    (s.acceptFrame f).pt.recordsInRange := by
  rw [State.acceptFrame_eq]
  intro e he
  obtain ⟨e', he', rfl⟩ := List.mem_map.1 he
  split
  · exact PeerRecord.accept_inRange hf _
  · exact h e' he'

theorem State.reportDuplicate_pt (s : State) : s.reportDuplicate.pt = s.pt := of_frame State.pt s.reportDuplicate_frame rfl

theorem State.receiveFrame_recordsInRange {s : State} (h : s.pt.recordsInRange) (bytes : List Byte) :
    (s.receiveFrame bytes).pt.recordsInRange := by
  rw [State.receiveFrame_eq]
  split
  · exact h
  · rcases s.endCollection.judgeFrame_cases bytes with ⟨-, hj⟩ | ⟨f, hd, ⟨-, hj⟩ | ⟨-, hj⟩ | ⟨-, -, hj⟩⟩ <;> rw [hj]
    · exact h
    · exact h
    · rw [State.reportDuplicate_pt]
      exact h
    · exact State.acceptFrame_recordsInRange (s := s.endCollection) h (decodeFrame_legal hd)

theorem State.grownEntries_inRange {s : State} (h : s.pt.recordsInRange) :
    ∀ e ∈ s.grownEntries, e.record.all PeerRecord.inRange = true := by
  intro e he
  obtain ⟨e', he', rfl⟩ := List.mem_map.1 he
  exact PeerEntry.grow_inRange (h e' he')

theorem State.latchView_recordsInRange {s : State} (h : s.pt.recordsInRange) :
    s.latchView.pt.recordsInRange ∧ s.latchView.pt.view.recordsInRange := by
  constructor
  · rw [PeerTable.recordsInRange, State.latchView_entries]
    intro e he
    obtain ⟨e', he', rfl⟩ := List.mem_map.1 he
    exact State.grownEntries_inRange h e' he'
  · rw [PeriodView.recordsInRange, State.latchView_view]
    intro e he
    dsimp only [State.copiedView] at he
    split at he
    · obtain ⟨e', he', rfl⟩ := List.mem_map.1 he
      exact State.grownEntries_inRange h e' he'
    · exact nomatch he

/-! ## The disagreement counter (R55) -/

theorem State.latchView_disCounter (s : State) :
    s.latchView.pt.disCounter = if s.ctl.state = .config then s.pt.disCounter else s.copied.nextDisCounter := by
  split
  next hc =>
    have hctl : (s.copyView.loseInHandover s.lostNow).ctl = s.ctl := by
      rw [State.loseInHandover_frame, State.copyView_frame]
    unfold State.latchView
    dsimp only
    rw [if_pos (by rw [hctl]; exact hc), State.loseInHandover_frame, State.copyView_frame]
  next hc => rw [State.latchView_eq hc]

theorem State.nextDisCounter_le (s : State) : s.nextDisCounter ≤ s.param Idx.tDis := by
  unfold State.nextDisCounter
  split
  · exact growTo_le _ _ _
  · exact Nat.zero_le _

/-! ## The block -/

/-- The view's copies of the local inputs, from the port's. -/
theorem State.latchView_inputs (s : State) : s.latchView.pt.view.driveLimit = s.lp.driveLimit
    ∧ s.latchView.pt.view.regenLimit = s.lp.regenLimit ∧ s.latchView.pt.view.demand = s.lp.demand
    ∧ s.latchView.pt.view.demandAge = s.lp.demandAge := by
  rw [s.latchView_view]
  exact ⟨rfl, rfl, rfl, rfl⟩

theorem State.latchView_tableRange {s : State} (hport : s.portRange) (h : s.tableRange) : s.latchView.tableRange := by
  obtain ⟨-, -, -, ⟨hdemand, hdrive, hregen, hage⟩, hlimits⟩ := hport
  obtain ⟨htable, hcounter, -⟩ := h
  obtain ⟨hentries, hview⟩ := State.latchView_recordsInRange htable
  obtain ⟨hdrive', hregen', hdemand', hage'⟩ := s.latchView_inputs
  have hparam : s.latchView.param = s.param :=
    State.param_of_words (of_frame (·.ps.words) s.latchView_frame rfl) (of_frame (·.ctl.strap) s.latchView_frame rfl)
  have hctl : s.latchView.ctl = s.ctl := of_frame State.ctl s.latchView_frame rfl
  have hmax : s.param Idx.tDis ≤ 250 := (s.param_le Idx.tDis (by decide)).2
  have hcopied : s.copied.nextDisCounter ≤ s.param Idx.tDis := s.copied.nextDisCounter_le
  rw [State.tableRange, hdrive', hregen', hdemand', hage', s.latchView_disCounter, hparam, hctl]
  refine ⟨hentries, ?_, hview, hdrive, hregen, hdemand, hage, fun hc => ⟨?_, hlimits hc⟩⟩
  · split
    · exact hcounter
    · exact hcopied.trans hmax
  · rw [if_neg hc]
    exact hcopied

/-- A command that leaves the table and the view. -/
theorem State.tableRange_congr {s t : State} (hpt : t.pt = s.pt)
    (hout : t.ctl.state ≠ .config → s.ctl.state ≠ .config ∧ t.param = s.param) (h : s.tableRange) : t.tableRange := by
  obtain ⟨htable, hcounter, hview, hdrive, hregen, hdemand, hage, hheld⟩ := h
  rw [State.tableRange, hpt]
  refine ⟨htable, hcounter, hview, hdrive, hregen, hdemand, hage, fun hc => ?_⟩
  obtain ⟨hs, hparam⟩ := hout hc
  rw [hparam]
  exact hheld hs

theorem State.enterListen_tableRange {s : State} (hport : s.lp.inRange) (hlimits : s.lp.driveLimit ≤ s.param Idx.drivePeak
    ∧ s.lp.regenLimit ≤ s.param Idx.regenPeak) : s.enterListen.tableRange := by
  obtain ⟨-, hdemand, hdrive, hregen, hage⟩ := hport
  have hnone {e : ViewEntry} (he : e ∈ s.clearedView.entries) : e.record = none := by
    obtain ⟨n, -, rfl⟩ := List.mem_map.1 he
    rfl
  refine ⟨fun e he => ?_, Nat.zero_le _, fun e he => by rw [hnone he]; rfl, hdrive, hregen, hdemand, hage,
    fun _ => ⟨Nat.zero_le _, hlimits⟩⟩
  obtain ⟨n, -, rfl⟩ := List.mem_map.1 he
  rfl

theorem State.takeStart_tableRange {s : State} (hport : s.portRange) (h : s.tableRange) : s.takeStart.tableRange := by
  obtain ⟨-, hinRange, hlimits⟩ := s.portRange_iff.1 hport
  rcases s.takeStart_cases with ⟨-, heq⟩ | ⟨-, heq⟩ | ⟨-, -, heq⟩ | ⟨code, index, hc, -, heq⟩ | ⟨hs, heq⟩
  · rwa [heq]
  · rw [heq]
    exact h
  · rw [heq]
    obtain ⟨hwindow, hdemand, hdrive, hregen, hage⟩ := hinRange
    exact State.enterListen_tableRange
      ⟨hwindow, hdemand, (Nat.min_le_left _ _).trans hdrive, (Nat.min_le_left _ _).trans hregen, hage⟩
      ⟨Nat.min_le_right _ _, Nat.min_le_right _ _⟩
  · rw [heq]
    exact State.tableRange_congr (s := s) rfl (fun hne => absurd hc hne) h
  · rw [heq]
    exact State.enterListen_tableRange hinRange (hlimits (hs ▸ nofun))

theorem effect_tableRange {c : Instr} (hclear : clears c = false) {s : State} (hport : s.portRange) (h : s.tableRange) :
    (effect c s).tableRange := by
  by_cases hstart : ∃ arg words, c = .start arg words
  · obtain ⟨arg, words, rfl⟩ := hstart
    exact State.takeStart_tableRange (s := s.deliver _) hport h
  have hout (hne : (effect c s).ctl.state ≠ .config) : s.ctl.state ≠ .config ∧ (effect c s).param = s.param := by
    have hs := (effect_ne_config hclear hne).resolve_right hstart
    exact ⟨hs, effect_param hclear hs⟩
  rcases effect_cases c s with hc | hs | ⟨-, -, words, p, u, hw⟩ | hc | ⟨arg, words, rfl⟩ | ⟨-, hv⟩ | ⟨-, hh⟩ | ⟨-, hsh⟩
    | ⟨bytes, -, hc, hf⟩
  · exact absurd (hclear.symm.trans hc) Bool.false_ne_true
  · exact State.tableRange_congr hs.pt hout h
  · exact State.tableRange_congr (by rw [hw]) hout h
  · exact absurd hc hstart
  · exact State.tableRange_congr (s := s) (of_frame State.pt (State.takeStop_frame (s.deliver _)) rfl) hout h
  · rw [hv]
    exact State.latchView_tableRange hport h
  · exact State.tableRange_congr (by rw [hh, s.stepHandover_frame]) hout h
  · exact State.tableRange_congr (by rw [hsh, s.shapeCommand_frame]) hout h
  · have hpt : (effect c s).pt = { s.pt with entries := (s.receiveFrame bytes).pt.entries } := by
      rw [hf]
      exact of_frame State.pt (s.receiveFrame_frame bytes) rfl
    obtain ⟨htable, hcounter, hview, hdrive, hregen, hdemand, hage, hheld⟩ := h
    rw [State.tableRange, hpt]
    refine ⟨State.receiveFrame_recordsInRange htable bytes, hcounter, hview, hdrive, hregen, hdemand, hage, fun hne => ?_⟩
    rw [(hout hne).2]
    exact hheld hc

end Sys2Proof.Machine
end

section
/-! PROOFS. The Slip Unit and the Handover Unit stay in their ranges (R74, R78, R127, R128, R145). -/

namespace Sys2Proof.Machine

/-! ## The Slip Unit (R76 to R84) -/

/-- TL and the hold counter after the limit of R81 to R84. -/
theorem cutTo_le {tlMin cut v bound : Nat} (hmin : tlMin ≤ bound) (hv : v ≤ bound) : cutTo tlMin cut v ≤ bound := by
  have hscaled : v * (16 - cut) / 16 ≤ v := Nat.div_le_of_le_mul (by
    rw [Nat.mul_comm]
    exact Nat.mul_le_mul_right v (Nat.sub_le 16 cut))
  exact Nat.max_le.2 ⟨hmin, hscaled.trans hv⟩

/-- The bounds that the limit keeps: of its inputs, TL and the hold counter. -/
structure TlInputs.Bounded (i : TlInputs) : Prop where
  unlimited_le : i.unlimited ≤ 20000
  peak_le : i.peak ≤ 20000
  tlMin_le : i.tlMin ≤ 20000
  hSlip_le : i.hSlip ≤ 100

theorem SlipUnit.growTl_bounds {u : SlipUnit} {unlimited peak : Nat} (hu : unlimited ≤ 20000) (hp : peak ≤ 20000)
    (hhold : u.hold ≤ 100) (step : Nat) :
    (u.growTl step unlimited peak).tl ≤ 20000 ∧ (u.growTl step unlimited peak).hold ≤ 100 := by
  obtain ⟨hends, hgoes⟩ := u.growTl_spec step unlimited peak
  by_cases h : (u.tl < unlimited ∧ unlimited ≤ u.tl + step) ∨ peak ≤ u.tl + step
  · rw [hends h]
    exact ⟨hu, hhold⟩
  · rw [hgoes h]
    rw [not_or, Nat.not_le] at h
    exact ⟨h.2.le.trans hp, hhold⟩

theorem SlipUnit.limit_bounds {u : SlipUnit} {i : TlInputs} (hi : i.Bounded) (htl : u.tl ≤ 20000) (hhold : u.hold ≤ 100)
    (rising : Bool) : (u.limit i rising).tl ≤ 20000 ∧ (u.limit i rising).hold ≤ 100 := by
  obtain ⟨hunlimited, hpeak, hmin, hslip⟩ := hi
  cases rising with
  | true =>
    have hfound : u.tlFound i ≤ 20000 := by
      unfold SlipUnit.tlFound
      split <;> assumption
    rw [SlipUnit.limit_of_rising]
    exact ⟨cutTo_le hmin ((Nat.min_le_left _ _).trans hfound), Nat.zero_le _⟩
  | false =>
    cases hs : u.tlState with
    | none =>
      rw [SlipUnit.limit_of_none hs]
      exact ⟨hunlimited, hhold⟩
    | cut =>
      cases hf : u.flag with
      | true =>
        rw [SlipUnit.limit_of_cut hs hf, SlipUnit.holdCut]
        split
        next hlt => exact ⟨htl, hlt.le.trans hslip⟩
        next => exact ⟨cutTo_le hmin htl, Nat.zero_le _⟩
      | false =>
        rw [SlipUnit.limit_of_clear (by rw [hs]; nofun) hf]
        exact SlipUnit.growTl_bounds hunlimited hpeak hhold _
    | recover =>
      cases hf : u.flag with
      | true =>
        rw [SlipUnit.limit_of_lasting hs hf]
        exact ⟨htl, hhold⟩
      | false =>
        rw [SlipUnit.limit_of_clear (by rw [hs]; nofun) hf]
        exact SlipUnit.growTl_bounds hunlimited hpeak hhold _

theorem PeriodView.limit_le {v : PeriodView} {bound : Nat} (hdrive : v.driveLimit ≤ bound) (hregen : v.regenLimit ≤ bound)
    (g : Sign) : v.limit g ≤ bound := by
  cases g with
  | negative => exact hregen
  | zero => exact Nat.max_le.2 ⟨hdrive, hregen⟩
  | positive => exact hdrive

theorem State.wheelPeak_le (s : State) (g : Sign) : s.wheelPeak g ≤ 20000 := by
  rw [s.wheelPeak_eq]
  split <;> exact Nat.min_le_left _ _

theorem State.tlInputs_bounded {s : State} (hdrive : s.pt.view.driveLimit ≤ 20000) (hregen : s.pt.view.regenLimit ≤ 20000)
    (g : Sign) : (s.tlInputs g).Bounded where
  unlimited_le := PeriodView.limit_le hdrive hregen g
  peak_le := s.wheelPeak_le g
  tlMin_le := (s.param_le Idx.tlMin (by decide)).2.trans (by decide)
  hSlip_le := (s.param_le Idx.hSlip (by decide)).2

/-- The unit's registers in their ranges (R74, R78). -/
def SlipUnit.inRange (u : SlipUnit) : Prop :=
  u.reference ≤ 65520 ∧ -1000 ≤ u.ratio ∧ u.ratio ≤ 1000 ∧ u.tl ≤ 20000 ∧ u.hold ≤ 100

theorem PeriodView.Peer.inRange {v : PeriodView} {r : PeerRecord} (h : v.Peer r) (hv : v.recordsInRange) : r.inRange = true := by
  obtain ⟨e, he, -, hr⟩ := h
  exact recordInRange_iff.1 (hv e he) r hr

theorem PeerRecord.axleSpeed_le {r : PeerRecord} (h : r.inRange = true) : r.frame.axleSpeed ≤ 4095 := by
  obtain ⟨-, -, ⟨-, -, haxle, -⟩, -⟩ := r.frame.legal_iff.1 (r.inRange_iff.1 h).1
  exact haxle

/-- The reference follows speeds, which are below 4096 (R76, R77). -/
theorem State.nextReference_le {s : State} (hspeed : s.ownSpeed ≤ 4095) (hv : s.pt.view.recordsInRange)
    (href : s.slu.reference ≤ 65520) (g : Sign) : s.nextReference g ≤ 65520 := by
  by_cases hg : g = .negative
  · subst hg
    obtain ⟨-, -, -, heq | heq | ⟨r, hr, heq⟩⟩ := s.nextReference_down
    · omega
    · omega
    · have haxle := PeerRecord.axleSpeed_le (hr.inRange hv)
      omega
  · have hup := (s.nextReference_up hg).1
    omega

theorem slipRatio_bounds (speed reference : Nat) : -1000 ≤ slipRatio speed reference ∧ slipRatio speed reference ≤ 1000 :=
  holdInt_bounds (by decide) _

theorem State.evaluatedSlip_inRange {s : State} (hspeed : s.ownSpeed ≤ 4095) (htable : s.tableRange) (h : s.slu.inRange) :
    s.evaluatedSlip.inRange := by
  obtain ⟨-, -, hv, hdrive, hregen, -⟩ := htable
  obtain ⟨href, -, -, htl, hhold⟩ := h
  obtain ⟨-, hreference, hratio, -⟩ := s.evaluatedSlip_fields
  obtain ⟨-, hhold', htl', -⟩ := s.flaggedSlip_fields
  have hbounds := SlipUnit.limit_bounds (u := s.flaggedSlip) (State.tlInputs_bounded hdrive hregen s.demandSign)
    (htl'.le.trans htl) (by rw [hhold']; split; exacts [hhold, Nat.zero_le _]) s.slipRises
  obtain ⟨hlo, hhi⟩ := slipRatio_bounds s.ownSpeed (s.nextReference s.demandSign)
  rw [SlipUnit.inRange, hreference, hratio, s.evaluatedSlip_eq]
  exact ⟨State.nextReference_le hspeed hv href _, hlo, hhi, hbounds⟩

theorem effect_slipUnit {c : Instr} (hclear : clears c = false) {s : State} (hwheels : s.wheelRange) (htable : s.tableRange)
    (h : s.slu.inRange) : (effect c s).slu.inRange := by
  by_cases hc : c = .slipEvaluation
  · subst hc
    refine ite_keeps (P := fun t => t.slu.inRange) h ?_
    obtain ⟨-, -, -, -, -, -, -, -, -, hfiltered⟩ := hwheels
    exact State.evaluatedSlip_inRange hfiltered htable h
  · rw [effect_slip hclear hc]
    exact h

/-! ## The echo-due list (R127, R145, R148) -/

/-- At most one entry per originator, none of the own number, each with a tag. -/
def echoesInRange (own : Station) (l : List EchoDue) : Prop :=
  l.Pairwise (fun a b => a.originator ≠ b.originator) ∧ ∀ e ∈ l, e.originator ≠ own ∧ e.tag ≠ 0

/-- There are three other stations. -/
theorem echoesInRange.length_le {own : Station} {l : List EchoDue} (h : echoesInRange own l) : l.length ≤ 3 := by
  obtain ⟨hpairs, hother⟩ := h
  have hnodup : (own :: l.map EchoDue.originator).Nodup := by
    rw [List.nodup_cons]
    refine ⟨fun hmem => ?_, List.pairwise_map.2 hpairs⟩
    obtain ⟨e, he, heq⟩ := List.mem_map.1 hmem
    exact (hother e he).1 heq
  have hcard := hnodup.length_le_card
  rw [List.length_cons, List.length_map, Fintype.card_fin] at hcard
  exact Nat.le_of_succ_le_succ hcard

theorem echoesInRange.filter {own : Station} {l : List EchoDue} (h : echoesInRange own l) (p : EchoDue → Bool) :
    echoesInRange own (l.filter p) :=
  ⟨h.1.filter p, fun e he => h.2 e (List.mem_of_mem_filter he)⟩

theorem echoesInRange.map {own : Station} {l : List EchoDue} (h : echoesInRange own l) {f : EchoDue → EchoDue}
    (hf : ∀ e, (f e).originator = e.originator ∧ (f e).tag = e.tag) : echoesInRange own (l.map f) := by
  refine ⟨List.pairwise_map.2 (h.1.imp fun hne => ?_), fun e he => ?_⟩
  · rwa [(hf _).1, (hf _).1]
  · obtain ⟨e', he', rfl⟩ := List.mem_map.1 he
    rw [(hf e').1, (hf e').2]
    exact h.2 e' he'

theorem EchoDue.serve_fields (e : EchoDue) (v : PeriodView) : (e.serve v).originator = e.originator ∧ (e.serve v).tag = e.tag := by
  unfold EchoDue.serve
  split <;> exact ⟨rfl, rfl⟩

theorem HandoverUnit.seeTag_echoes {h : HandoverUnit} {own : Station} (he : echoesInRange own h.echoDue) {f : ShareFrame}
    (hf : f.sender ≠ own) : echoesInRange own (h.seeTag f).echoDue := by
  have hothers := he.filter (fun e => e.originator != f.sender)
  have hcases : (h.seeTag f).echoDue = h.echoDue.filter (fun e => e.originator != f.sender)
      ∨ (h.seeTag f).echoDue = h.echoDue
      ∨ f.tag ≠ 0 ∧ (h.seeTag f).echoDue = h.echoDue.filter (fun e => e.originator != f.sender) ++ [⟨f.sender, f.tag, .seen⟩] := by
    unfold HandoverUnit.seeTag
    dsimp only
    split
    · exact .inl rfl
    next hne =>
      split
      · exact .inr (.inl rfl)
      · exact .inr (.inr ⟨hne, rfl⟩)
  rcases hcases with heq | heq | ⟨htag, heq⟩ <;> rw [heq]
  · exact hothers
  · exact he
  · refine ⟨List.pairwise_append.2 ⟨hothers.1, List.pairwise_singleton _ _, fun a ha b hb => ?_⟩, fun e hmem => ?_⟩
    · rw [List.mem_singleton.1 hb]
      exact bne_iff_ne.1 (List.of_mem_filter (p := fun e : EchoDue => e.originator != f.sender) ha)
    · rcases List.mem_append.1 hmem with hmem | hmem
      · exact hothers.2 e hmem
      · rw [List.mem_singleton.1 hmem]
        exact ⟨hf, htag⟩

end Sys2Proof.Machine
end

section
/-! PROOFS. The open record, and the Handover Unit as a whole, stay in their ranges (R127, R128). -/

namespace Sys2Proof.Machine

/-! ## Records -/

theorem HoRecord.inRange_iff (r : HoRecord) : r.inRange = true ↔ r.tag ≠ 0 ∧ 1 ≤ r.origin ∧ r.origin ≤ 20000
    ∧ r.target ≤ 20000 ∧ r.lHo ≤ 20000 ∧ r.timer ≤ 250 := by
  rw [HoRecord.inRange, decide_eq_true_eq]

theorem HoRecord.excuse_inRange {r : HoRecord} (h : r.inRange = true) (lost : List Station) : (r.excuse lost).inRange = true :=
  (HoRecord.inRange_iff _).2 (r.inRange_iff.1 h)

theorem HoRecord.absorb_inRange {r : HoRecord} (h : r.inRange = true) (own : Station) (f : ShareFrame) :
    (r.absorb own f).inRange = true := by
  rw [r.absorb_eq]
  exact (HoRecord.inRange_iff _).2 (r.inRange_iff.1 h)

/-- The torques that a step takes up are in their ranges. -/
structure State.TorquesInRange (s : State) : Prop where
  drive_le : s.pt.view.driveLimit ≤ 20000
  regen_le : s.pt.view.regenLimit ≤ 20000
  applied_le : s.csh.applied.natAbs ≤ 20000

theorem State.hoTarget_le {s : State} (h : s.TorquesInRange) (g : Sign) : s.hoTarget g ≤ 20000 :=
  (Nat.min_le_left _ _).trans (PeriodView.limit_le h.drive_le h.regen_le g)

theorem State.appliedInSign_le {s : State} (h : s.TorquesInRange) : s.appliedInSign ≤ 20000 := by
  unfold State.appliedInSign Sign.magnitudeOf
  split
  · exact h.applied_le
  · exact Nat.zero_le _

theorem State.openRecord_inRange {s : State} (h : s.TorquesInRange) (htrigger : s.handoverTrigger = true) {r : HoRecord}
    (hr : s.openRecord.record = some r) : r.inRange = true := by
  obtain ⟨-, -, happlied⟩ := State.handoverTrigger_bounds htrigger
  obtain rfl := Option.some.inj hr
  have hle := State.appliedInSign_le h
  refine (HoRecord.inRange_iff _).2 ⟨nextTag_ne_zero _, ?_, hle, State.hoTarget_le h _, hle, Nat.zero_le _⟩
  exact Nat.lt_of_le_of_lt (Nat.zero_le _) happlied

theorem State.carried_inRange {s : State} (h : s.TorquesInRange) {r : HoRecord} (hr : r.inRange = true) :
    (s.carried r).inRange = true := by
  obtain ⟨-, horigin, horigin', -, hlHo, htimer⟩ := r.inRange_iff.1 hr
  unfold State.carried
  split
  · exact (HoRecord.inRange_iff _).2 ⟨nextTag_ne_zero _, horigin, horigin', State.hoTarget_le h _, hlHo, htimer⟩
  · exact hr

theorem HoRecord.aged_inRange {r : HoRecord} (h : r.inRange = true) {tHo : Nat} (ht : r.timer + 1 < tHo) (hmax : tHo ≤ 250)
    (v : PeriodView) : (r.aged v).inRange = true := by
  obtain ⟨htag, horigin, horigin', htarget, hlHo, -⟩ := r.inRange_iff.1 h
  refine (HoRecord.inRange_iff _).2 ⟨htag, horigin, horigin', htarget, ?_, ht.le.trans hmax⟩
  exact Nat.max_le.2 ⟨htarget, (Nat.sub_le _ _).trans hlHo⟩

/-! ## The unit -/

/-- The unit's registers in their ranges, for the own number. -/
structure HandoverUnit.InRange (h : HandoverUnit) (own : Station) : Prop where
  record : ∀ r, h.record = some r → r.inRange = true
  published : ∀ l, h.published = some l → l ≤ 20000
  limits : ∀ l, h.prevLimits = some l → l.1 ≤ 20000 ∧ l.2 ≤ 20000
  echoes : echoesInRange own h.echoDue

theorem HandoverUnit.leave_inRange {h : HandoverUnit} {own : Station} (hh : h.InRange own) (report : HoReport) :
    HandoverUnit.InRange { h with
      record := none, report := report, echoDue := h.echoDue.map (fun e => ⟨e.originator, e.tag, .seen⟩) } own :=
  ⟨nofun, hh.published, hh.limits, hh.echoes.map fun _ => ⟨rfl, rfl⟩⟩

theorem State.takeStart_houInRange {s : State} (h : s.hou.InRange s.own) : s.takeStart.hou.InRange s.own := by
  have hclear : HandoverUnit.InRange { s.hou with lastTags := noTagsSeen, echoDue := [] } s.own :=
    ⟨h.record, h.published, h.limits, .nil, nofun⟩
  rcases s.takeStart_cases with ⟨-, heq⟩ | ⟨-, heq⟩ | ⟨-, -, heq⟩ | ⟨code, index, -, -, heq⟩ | ⟨-, heq⟩ <;> rw [heq]
  · exact h
  · exact h
  · exact hclear
  · exact h
  · exact hclear

theorem State.takeStop_houInRange {s : State} (h : s.hou.InRange s.own) : s.takeStop.hou.InRange s.own := by
  rcases s.takeStop_cases with ⟨-, heq⟩ | ⟨-, heq⟩ | ⟨-, heq⟩ | ⟨-, heq⟩ <;> rw [heq]
  · exact h
  · exact h
  · exact h
  · rw [State.leaveRun_eq]
    exact HandoverUnit.leave_inRange h _

theorem State.latchView_houInRange {s : State} (h : s.hou.InRange s.own) : s.latchView.hou.InRange s.own := by
  have hhou : s.latchView.hou = s.houAfterLoss := by
    rw [s.latchView_hou]
    exact State.loseInHandover_hou (s := s) (of_frame State.hou s.copyView_frame rfl) _
  obtain ⟨hframe, hechoes, -⟩ := s.houAfterLoss_spec
  refine ⟨fun r hr => ?_, ?_, ?_, ?_⟩
  · obtain ⟨q, hq, rfl | rfl⟩ := State.latchView_record hr
    · exact h.record _ hq
    · exact HoRecord.excuse_inRange (h.record q hq) _
  · rw [hhou, hframe]
    exact h.published
  · rw [hhou, hframe]
    exact h.limits
  · rw [hhou, hechoes]
    exact h.echoes.filter _

theorem State.moveRecord_hou (s : State) : s.moveRecord.hou.published = s.hou.published
    ∧ s.moveRecord.hou.echoDue = s.hou.echoDue := by
  cases hr : s.hou.record with
  | none =>
    rw [State.moveRecord_of_none hr]
    split <;> exact ⟨rfl, rfl⟩
  | some r =>
    rw [State.moveRecord_of_open hr]
    by_cases hc : s.cancels r
    · rw [State.stepRecord_of_cancels hc]
      exact ⟨rfl, rfl⟩
    rw [State.stepRecord_of_carried hc]
    rcases State.runRecord_cases { s with hou := { s.hou with tagCounter := s.carriedCounter r } } (s.carried r) with
      ⟨-, hrun⟩ | ⟨-, hrun⟩ | ⟨-, hrun⟩ <;> rw [hrun] <;> exact ⟨rfl, rfl⟩

theorem State.stepHandover_houInRange {s : State} (ht : s.TorquesInRange) (h : s.hou.InRange s.own) :
    s.stepHandover.hou.InRange s.own := by
  have hrecord : ∀ r, s.moveRecord.hou.record = some r → r.inRange = true := by
    intro r hr
    rcases State.moveRecord_record hr with ⟨-, htrigger, hopen⟩ | ⟨q, hq, -, htimer, rfl⟩
    · exact State.openRecord_inRange ht htrigger hopen
    · exact HoRecord.aged_inRange (State.carried_inRange ht (h.record q hq)) htimer s.param_tHo_bounds.2 _
  refine ⟨hrecord, fun l hl => ?_, fun l hl => ?_, ?_⟩
  · obtain ⟨r, hr, rfl⟩ := Option.map_eq_some_iff.1 hl
    obtain ⟨-, -, -, -, hlHo, -⟩ := r.inRange_iff.1 (hrecord r hr)
    exact hlHo
  · obtain rfl := Option.some.inj hl
    exact ⟨ht.drive_le, ht.regen_le⟩
  · show echoesInRange s.own s.moveRecord.hou.echoDue
    rw [s.moveRecord_hou.2]
    exact h.echoes

theorem State.allocate_houInRange {s : State} (h : s.hou.InRange s.own) : s.allocate.hou.InRange s.own := by
  by_cases hs : s.ctl.state = .run
  · rw [State.allocate_of_run hs]
    exact ⟨h.record, h.published, h.limits, h.echoes.map fun e => e.serve_fields _⟩
  · have heq : s.allocate = { s with ale := s.restingShares, stage := .share } := if_neg hs
    rw [heq]
    exact h

theorem State.reportDuplicate_houInRange {s : State} (h : s.hou.InRange s.own) : s.reportDuplicate.hou.InRange s.own := by
  cases hd : s.ctl.dupLatch with
  | true =>
    rw [State.reportDuplicate_of_latched hd]
    exact h
  | false =>
    cases hs : s.ctl.state with
    | config | stopping | stopped =>
      rw [State.reportDuplicate_of_stopped hd (by simp [hs])]
      exact h
    | listen =>
      rw [State.reportDuplicate_of_listen hd hs]
      exact h
    | run =>
      rw [State.reportDuplicate_of_run hd hs]
      exact HandoverUnit.leave_inRange h _

theorem State.receiveFrame_houInRange {s : State} (h : s.hou.InRange s.own) (bytes : List Byte) :
    (s.receiveFrame bytes).hou.InRange s.own := by
  rw [State.receiveFrame_eq]
  split
  · exact h
  · rcases s.endCollection.judgeFrame_cases bytes with ⟨-, hj⟩ | ⟨f, -, ⟨-, hj⟩ | ⟨-, hj⟩ | ⟨-, hne, hj⟩⟩ <;> rw [hj]
    · exact h
    · exact h
    · exact State.reportDuplicate_houInRange (s := s.endCollection) h
    · rw [State.acceptFrame_eq]
      refine ⟨fun r hr => ?_, h.published, h.limits, HandoverUnit.seeTag_echoes h.echoes hne⟩
      obtain ⟨q, hq, rfl⟩ := Option.map_eq_some_iff.1 hr
      exact HoRecord.absorb_inRange (h.record q hq) _ _

/-! ## The block -/

theorem effect_houInRange {c : Instr} (hclear : clears c = false) {s : State} (ht : s.TorquesInRange)
    (h : s.hou.InRange s.own) : (effect c s).hou.InRange (effect c s).own := by
  have hown : (effect c s).own = s.own := (effect_words hclear s).2
  rw [hown]
  cases hset : setsHandover c with
  | false =>
    rw [effect_handover hclear hset]
    exact h
  | true =>
    have hkeeps {p : Prop} [Decidable p] {t : State} (hu : t.hou.InRange s.own) : (if p then t else s).hou.InRange s.own :=
      ite_keeps (P := fun u => u.hou.InRange s.own) h hu
    cases c with
    | start arg words => exact State.takeStart_houInRange (s := s.deliver _) h
    | stop arg words => exact State.takeStop_houInRange (s := s.deliver _) h
    | viewLatch => exact hkeeps (State.latchView_houInRange h)
    | handoverStep => exact hkeeps (State.stepHandover_houInRange ht h)
    | allocationComputation => exact hkeeps (State.allocate_houInRange h)
    | frameReceived bytes =>
      exact onBus_keeps (P := fun u => u.hou.InRange s.own) h fun _ => State.receiveFrame_houInRange h bytes
    | _ => exact nomatch hset

/-- The block's range predicate, part by part. -/
theorem State.slipRange_iff (s : State) : s.slipRange ↔ s.slu.inRange ∧ s.hou.InRange s.own := by
  have hall {α : Type} {o : Option α} {p : α → Bool} : o.all p = true ↔ ∀ a, o = some a → p a = true := by cases o <;> simp
  simp only [State.slipRange, hall, decide_eq_true_eq]
  constructor
  · rintro ⟨hslip, hrecord, hpublished, hlimits, -, hpairs, hechoes⟩
    exact ⟨hslip, hrecord, hpublished, hlimits, hpairs, hechoes⟩
  · rintro ⟨hslip, hrecord, hpublished, hlimits, hechoes⟩
    exact ⟨hslip, hrecord, hpublished, hlimits, hechoes.length_le, hechoes⟩

theorem effect_slipRange {c : Instr} (hclear : clears c = false) {s : State} (hwheels : s.wheelRange) (htable : s.tableRange)
    (happlied : s.csh.applied.natAbs ≤ 20000) (h : s.slipRange) : (effect c s).slipRange := by
  rw [State.slipRange_iff] at h ⊢
  have ⟨_, _, _, hdrive, hregen, _⟩ := htable
  exact ⟨effect_slipUnit hclear hwheels htable h.1, effect_houInRange hclear ⟨hdrive, hregen, happlied⟩ h.2⟩

end Sys2Proof.Machine
end

section
/-! PROOFS. The Allocation Engine and the Command Shaper stay in their ranges (R92, R103, R151, R154, R158, R162). -/

namespace Sys2Proof.Machine

/-! ## The choice (R89 to R96) -/

theorem State.speedBand_le (s : State) : s.speedBand ≤ 15 := Nat.min_le_left _ _

/-- What validation has found of the tables: profile entries below 8, pattern entries with an override up to 8 and a
trim up to 12 (R7). -/
theorem State.tables_of_valid {s : State} (h : s.validate = none) :
    (∀ i, 54 ≤ i ∧ i ≤ 117 → (s.word i).toNat ≤ 7)
    ∧ ∀ i, 118 ≤ i ∧ i ≤ 133 → (s.word i).toNat / 256 ≤ 8 ∧ (s.word i).toNat % 256 ≤ 12 := by
  obtain ⟨-, -, hprofile, hpattern, -⟩ := s.validate_none_iff.1 h
  exact ⟨s.profile_passes_iff.1 hprofile, (s.pattern_passes_iff_words.1 hpattern).1⟩

theorem State.chooseSet_le {s : State} (h : s.validate = none) : s.chooseSet ≤ 7 := by
  obtain ⟨hprofile, -⟩ := State.tables_of_valid h
  unfold State.chooseSet
  dsimp only
  split
  next ho => exact ho
  next =>
    have hmode := s.pt.view.mode.code_lt
    have hband := s.speedBand_le
    exact hprofile _ (by simp only [Idx.profile]; omega)

theorem State.patternTrim_le {s : State} (h : s.validate = none) : s.patternTrim s.slipPattern ≤ 12 := by
  have hpattern := s.slipPattern_lt
  exact ((State.tables_of_valid h).2 _ (by simp only [Idx.pattern]; omega)).2

/-- The selection record in its ranges (R92). -/
def Selection.inRange (sel : Selection) : Prop := sel.pattern ≤ 15 ∧ sel.band ≤ 15 ∧ sel.code ≤ 8 ∧ sel.trim ≤ 12

theorem State.choose_inRange {s : State} (hvalid : s.validate = none) (h : s.ale.selection.inRange) : s.choose.inRange := by
  have hpattern : s.slipPattern ≤ 15 := Nat.le_of_lt_succ s.slipPattern_lt
  have hcode : s.chooseSet ≤ 8 := (State.chooseSet_le hvalid).trans (by decide)
  unfold State.choose
  split
  · exact ⟨hpattern, h.2.1, Nat.le_refl 8, Nat.zero_le _⟩
  · exact ⟨hpattern, s.speedBand_le, hcode, State.patternTrim_le hvalid⟩
  · exact ⟨hpattern, s.speedBand_le, hcode, State.patternTrim_le hvalid⟩

/-! ## Demand and shares (R107 to R122) -/

theorem State.demandZero_le (s : State) : s.demandZero.natAbs ≤ 20000 := by
  have hmax : s.param Idx.dMax ≤ 20000 := (s.param_le Idx.dMax (by decide)).2
  have hbounds := holdInt_bounds (lo := -(s.param Idx.dMax : Int)) (hi := s.param Idx.dMax) (by omega) s.usedDemand
  unfold State.demandZero
  omega

/-- The trim takes a demand toward zero (R109). -/
theorem trimDemand_le (d0 : Int) {k : Nat} (hk : k ≤ 16) : (trimDemand d0 k).natAbs ≤ d0.natAbs := by
  have hscale : (16 - (k : Int)).natAbs ≤ 16 := by omega
  have hdiv : (trimDemand d0 k).natAbs = d0.natAbs * (16 - (k : Int)).natAbs / 16 := by
    rw [trimDemand, Int.natAbs_tdiv, Int.natAbs_mul]
    rfl
  rw [hdiv]
  exact Nat.div_le_of_le_mul (by rw [Nat.mul_comm]; exact Nat.mul_le_mul_right _ hscale)

theorem State.ownShare_le (s : State) (code : Nat) (g : Sign) (d own : Nat) : (s.split code g d own).shareOf s.own ≤ own := by
  have h := s.split_shareOf_le code g d own s.own
  rwa [State.capacityOf, if_pos rfl] at h

theorem State.split_shortfall_le (s : State) (code : Nat) (g : Sign) (d own : Nat) : (s.split code g d own).shortfall ≤ d := by
  unfold State.split
  split
  · exact Nat.zero_le _
  · exact (waterFill_shortfall_le _ _).trans (Nat.sub_le _ _)

theorem State.freeShare_le {s : State} {bound : Nat} (htl : s.slu.tl ≤ bound) (code : Nat) (g : Sign) (d : Nat) :
    ∀ a, s.freeShare code g d = some a → a.natAbs ≤ bound := by
  intro a ha
  have hown (l : Nat) (g : Sign) : (g.apply ((s.split code g d (min l s.slu.tl)).shareOf s.own)).natAbs ≤ bound :=
    (g.apply_natAbs_le _).trans ((s.ownShare_le code g d _).trans ((Nat.min_le_right _ _).trans htl))
  unfold State.freeShare at ha
  split at ha
  · exact nomatch ha
  · exact nomatch ha
  all_goals
    obtain rfl := Option.some.inj ha
    exact hown _ _

/-- The engine's registers in their ranges (R92, R103). -/
structure AllocationEngine.InRange (a : AllocationEngine) : Prop where
  selection : a.selection.inRange
  demand_le : a.demand.natAbs ≤ 20000
  share_le : a.aSelf.natAbs ≤ 20000
  free_le : ∀ f, a.aFree = some f → f.natAbs ≤ 20000
  shortfall_le : a.shortfall ≤ 20000

theorem State.computeShares_inRange {s : State} (hvalid : s.validate = none) (htl : s.slu.tl ≤ 20000)
    (h : s.ale.selection.inRange) : s.computeShares.InRange := by
  obtain ⟨-, -, -, htrim⟩ := State.choose_inRange hvalid h
  have hdemand : (trimDemand s.demandZero s.choose.trim).natAbs ≤ 20000 :=
    (trimDemand_le _ (htrim.trans (by decide))).trans s.demandZero_le
  have hcapacity (g : Sign) : s.ownCapacity g ≤ 20000 := (Nat.min_le_right _ _).trans htl
  exact ⟨State.choose_inRange hvalid h, hdemand, (Sign.apply_natAbs_le _ _).trans ((s.ownShare_le _ _ _ _).trans (hcapacity _)),
    State.freeShare_le htl _ _ _, (s.split_shortfall_le _ _ _ _).trans hdemand⟩

theorem State.restingShares_inRange (s : State) : s.restingShares.InRange :=
  ⟨⟨Nat.le_of_lt_succ s.slipPattern_lt, Nat.zero_le _, Nat.zero_le _, Nat.zero_le _⟩, Nat.zero_le _, Nat.zero_le _, nofun,
    Nat.zero_le _⟩

theorem State.allocate_inRange {s : State} (hlife : s.lifeInv) (htl : s.slu.tl ≤ 20000) (h : s.ale.InRange) :
    s.allocate.ale.InRange := by
  by_cases hs : s.ctl.state = .run
  · obtain ⟨-, -, hvalid, -⟩ := hlife
    rw [State.allocate_of_run hs]
    exact State.computeShares_inRange (hvalid (hs ▸ nofun)) htl h.selection
  · have heq : s.allocate = { s with ale := s.restingShares, stage := .share } := if_neg hs
    rw [heq]
    exact s.restingShares_inRange

theorem effect_aleInRange {c : Instr} (hclear : clears c = false) {s : State} (hlife : s.lifeInv) (htl : s.slu.tl ≤ 20000)
    (h : s.ale.InRange) : (effect c s).ale.InRange := by
  by_cases hc : c = .allocationComputation
  · subst hc
    exact ite_keeps (P := fun t => t.ale.InRange) h (State.allocate_inRange hlife htl h)
  · rw [effect_shares hclear hc]
    exact h

/-! ## The shaper (R151, R154 to R158, R162, R163) -/

theorem toWheel_natAbs_le (ratio : Nat) (m : Int) : (toWheel ratio m).natAbs ≤ 20000 := by
  have hbounds := holdInt_bounds (lo := -20000) (hi := 20000) (by decide)
    ((Sign.ofInt m).apply ((2 * m.natAbs * ratio + 1024) / 2048))
  unfold toWheel
  omega

/-- The command and its target lie between those that were. -/
theorem slew_natAbs_le {m u : Int} {bound : Nat} (hm : m.natAbs ≤ bound) (hu : u.natAbs ≤ bound) (rise fall : Nat) :
    (slew rise fall m u).1.natAbs ≤ bound := by
  rcases slew_cases rise fall m u with ⟨-, h⟩ | ⟨-, -, h⟩ | ⟨-, h⟩ | ⟨-, -, h⟩ | ⟨-, -, h⟩ <;> rw [h]
  · exact hm
  · exact (Sign.apply_natAbs_le _ _).trans ((Nat.min_le_left _ _).trans hu)
  · exact (Sign.apply_natAbs_le _ _).trans (Nat.max_le.2 ⟨hu, (Nat.sub_le _ _).trans hm⟩)
  · exact (Sign.apply_natAbs_le _ _).trans ((Nat.sub_le _ _).trans hm)
  · exact Nat.zero_le _

theorem clampTo_natAbs_le {r : Int × ShapeOutcome} {peak : Nat} (h : r.1.natAbs ≤ peak) (bound : Nat) :
    (clampTo bound r).1.natAbs ≤ peak := by
  obtain ⟨hkeep, hcut, -⟩ := clampTo_spec bound r.1 r.2
  rcases Nat.lt_or_ge bound r.1.natAbs with hlt | hle
  · exact (hcut hlt).1.le.trans (hlt.le.trans h)
  · rw [hkeep hle]
    exact h

theorem holdPeak_natAbs_le (peak : Nat) (u : Int) : (holdPeak peak u).1.natAbs ≤ peak := by
  obtain ⟨hheld, hover⟩ := holdPeak_spec peak u
  rcases Nat.lt_or_ge peak u.natAbs with hlt | hle
  · exact (hover hlt).1.le
  · rw [hheld hle]
    exact hle

/-- The shaper's registers in their ranges, for a motor peak (R151, R154). -/
structure Shaper.InRange (c : Shaper) (peak : Nat) : Prop where
  command_le : c.command.natAbs ≤ peak
  target_le : c.target.natAbs ≤ peak
  applied_le : c.applied.natAbs ≤ 20000

theorem State.shaped_inRange {s : State} (h : s.csh.InRange (s.param Idx.motorPeak)) :
    s.shaped.InRange (s.param Idx.motorPeak) := by
  by_cases hs : s.ctl.state = .run ∨ s.ctl.state = .stopping
  · have htarget : s.heldTarget.1.natAbs ≤ s.param Idx.motorPeak := by
      unfold State.heldTarget
      split
      · exact holdPeak_natAbs_le _ _
      · exact Nat.zero_le _
    rw [State.shaped_of_acting hs]
    exact ⟨clampTo_natAbs_le (slew_natAbs_le h.command_le htarget _ _) _, htarget, toWheel_natAbs_le _ _⟩
  · have hresting : s.ctl.state.resting := by
      cases hc : s.ctl.state <;> simp [hc, LifeState.resting] at hs ⊢
    rw [State.shaped_of_resting hresting]
    exact ⟨Nat.zero_le _, Nat.zero_le _, Nat.zero_le _⟩

/-- A command that is not a publication leaves the shaper. -/
theorem effect_csh {c : Instr} (hclear : clears c = false) (s : State) :
    (effect c s).csh = s.csh ∨ (effect c s).csh = s.shaped := by
  rcases effect_cases c s with hc | hs | ⟨-, -, words, p, u, hw⟩ | ⟨arg, words, rfl⟩ | ⟨arg, words, rfl⟩ | ⟨-, hv⟩
    | ⟨-, hh⟩ | ⟨-, hsh⟩ | ⟨bytes, -, -, hf⟩
  · exact absurd (hclear.symm.trans hc) Bool.false_ne_true
  · exact .inl hs.csh
  · exact .inl (by rw [hw])
  · exact .inl (of_frame State.csh (State.takeStart_frame (s.deliver _)) rfl)
  · exact .inl (of_frame State.csh (State.takeStop_frame (s.deliver _)) rfl)
  · exact .inl (by rw [hv, s.latchView_frame])
  · exact .inl (by rw [hh, s.stepHandover_frame])
  · exact .inr (by rw [hsh, s.shapeCommand_csh])
  · exact .inl (by rw [hf, s.receiveFrame_frame])

/-- In CONFIG the shaper's command and target are 0. -/
def State.restsInConfig (s : State) : Prop := s.ctl.state = .config → s.csh.command = 0 ∧ s.csh.target = 0

theorem effect_cshInRange {c : Instr} (hclear : clears c = false) {s : State} (hrests : s.restsInConfig)
    (h : s.csh.InRange (s.param Idx.motorPeak)) : (effect c s).csh.InRange ((effect c s).param Idx.motorPeak) := by
  by_cases hs : s.ctl.state = .config
  · obtain ⟨hcommand, htarget⟩ := hrests hs
    rcases effect_csh hclear s with heq | heq <;> rw [heq]
    · exact ⟨by rw [hcommand]; exact Nat.zero_le _, by rw [htarget]; exact Nat.zero_le _, h.applied_le⟩
    · rw [State.shaped_of_resting (.inl hs)]
      exact ⟨Nat.zero_le _, Nat.zero_le _, Nat.zero_le _⟩
  · rw [effect_param hclear hs]
    rcases effect_csh hclear s with heq | heq <;> rw [heq]
    · exact h
    · exact State.shaped_inRange h

theorem effect_target {c : Instr} (hclear : clears c = false) {s : State} (hrests : s.restsInConfig)
    (hs : (effect c s).ctl.state = .config) : (effect c s).csh.target = 0 := by
  have hconfig := effect_config hclear hs
  rcases effect_csh hclear s with heq | heq <;> rw [heq]
  · exact (hrests hconfig).2
  · rw [State.shaped_of_resting (.inl hconfig)]
    rfl

/-! ## The block -/

theorem State.torqueRange_iff (s : State) : s.torqueRange ↔
    s.ale.InRange ∧ s.csh.InRange (s.param Idx.motorPeak) ∧ (s.ctl.state = .config → s.csh.target = 0) := by
  have hpeak : s.param Idx.motorPeak ≤ 4000 := (s.param_le Idx.motorPeak (by decide)).2
  have hall {o : Option Int} : o.all (fun a => decide (a.natAbs ≤ 20000)) = true ↔ ∀ a, o = some a → a.natAbs ≤ 20000 := by
    cases o <;> simp
  simp only [State.torqueRange, hall]
  constructor
  · rintro ⟨hselection, ⟨hdemand, hshare, hfree, hshortfall⟩, ⟨-, -, happlied⟩, ⟨hcommand, htarget⟩, hzero⟩
    exact ⟨⟨hselection, hdemand, hshare, hfree, hshortfall⟩, ⟨hcommand, htarget, happlied⟩, hzero⟩
  · rintro ⟨⟨hselection, hdemand, hshare, hfree, hshortfall⟩, ⟨hcommand, htarget, happlied⟩, hzero⟩
    exact ⟨hselection, ⟨hdemand, hshare, hfree, hshortfall⟩, ⟨hcommand.trans hpeak, htarget.trans hpeak, happlied⟩,
      ⟨hcommand, htarget⟩, hzero⟩

theorem effect_torqueRange {c : Instr} (hclear : clears c = false) {s : State} (hlife : s.lifeInv) (htl : s.slu.tl ≤ 20000)
    (h : s.torqueRange) : (effect c s).torqueRange := by
  rw [State.torqueRange_iff] at h ⊢
  obtain ⟨hale, hcsh, htarget⟩ := h
  have hrests : s.restsInConfig := fun hs => by
    obtain ⟨-, -, -, hresting, -⟩ := hlife
    exact ⟨(hresting (.inl hs)).1, htarget hs⟩
  exact ⟨effect_aleInRange hclear hlife htl hale, effect_cshInRange hclear hrests hcsh, effect_target hclear hrests⟩

end Sys2Proof.Machine
end

section
/-! PROOFS. The counters of the share bus interface and of the Health Unit stay in their ranges (R24, R25, R35, R39, R191,
R198); with that every step keeps every range. -/

namespace Sys2Proof.Machine

/-! ## The share bus interface (R24, R25, R35) -/

/-- The idle watch, the service counter and the quiet counter, the latter for a quiet count. -/
structure ShareBus.InRange (b : ShareBus) (quietCount : Nat) : Prop where
  idle_le : b.idleWatch ≤ 10
  service_le : b.service ≤ 15
  quiet_le : b.quiet ≤ quietCount

theorem ShareBus.inRange_congr {b b' : ShareBus} {q : Nat} (h : b'.counters = b.counters) (hb : b.InRange q) : b'.InRange q := by
  simp only [ShareBus.counters, Prod.mk.injEq] at h
  obtain ⟨hidle, hservice, hquiet⟩ := h
  exact ⟨hidle ▸ hb.idle_le, hservice ▸ hb.service_le, hquiet ▸ hb.quiet_le⟩

/-- A bus whose quiet counter has returned to 0. -/
theorem ShareBus.inRange_of_quiet {b b' : ShareBus} {q q' : Nat} (hb : b.InRange q) (hidle : b'.idleWatch = b.idleWatch)
    (hservice : b'.service = b.service) (hquiet : b'.quiet = 0) : b'.InRange q' :=
  ⟨hidle ▸ hb.idle_le, hservice ▸ hb.service_le, hquiet ▸ Nat.zero_le _⟩

/-- The bound on the quiet counter: the quiet count outside CONFIG, its greatest value in it. -/
def State.quietBound (s : State) : Nat := if s.ctl.state = .config then 4000 else s.param Idx.quietCount

theorem State.nextQuiet_le (s : State) : s.nextQuiet ≤ s.param Idx.quietCount := by
  unfold State.nextQuiet
  split
  · exact growTo_le _ _ _
  · exact Nat.zero_le _

theorem State.steppedBus_quiet_le (s : State) : s.steppedBus.quiet ≤ s.param Idx.quietCount := by
  by_cases hrun : s.ctl.state = .run
  · rw [State.steppedBus_of_run hrun]
    cases hi : s.sbi.interval with
    | one =>
      rw [State.quietStep_of_one hi]
      split
      exacts [Nat.zero_le _, s.nextQuiet_le]
    | sixteen =>
      rw [State.quietStep_of_sixteen hi]
      split
      exacts [Nat.zero_le _, s.nextQuiet_le]
  · rw [State.steppedBus_of_not_run hrun]
    exact Nat.zero_le _

theorem State.schedule_service_le {s : State} (h : s.sbi.service ≤ 15) : s.schedule.2 ≤ 15 := by
  obtain ⟨hnever, hatChange, hone, hsixteen⟩ := s.schedule_spec
  by_cases hsilent : s.ctl.state = .config ∨ s.ctl.dupLatch = true
  · rw [hnever hsilent]
    exact h
  cases hchange : s.stepChanges with
  | true =>
    rw [hatChange hsilent hchange]
    exact Nat.zero_le _
  | false =>
    cases hi : s.steppedBus.interval with
    | one =>
      rw [hone hsilent hchange hi]
      exact h
    | sixteen =>
      rw [hsixteen hsilent hchange hi]
      split
      next hlt => exact Nat.le_of_lt_succ hlt
      next => exact Nat.zero_le _

theorem State.shapeCommand_idleWatch (s : State) : s.shapeCommand.sbi.idleWatch = s.sbi.idleWatch := by
  cases h : s.schedule.1
  · rw [State.shapeCommand_sbi_of_idle h, State.scheduled_sbi]
  · rw [State.shapeCommand_sbi_of_due h, State.buildFrame_sbi_frame, State.scheduled_sbi]

theorem State.shapeCommand_busInRange {s : State} {q : Nat} (h : s.sbi.InRange q) :
    s.shapeCommand.sbi.InRange (s.param Idx.quietCount) := by
  obtain ⟨-, hquiet, -, hservice, -⟩ := s.shapeCommand_sbi_fields
  exact ⟨s.shapeCommand_idleWatch ▸ h.idle_le, hservice ▸ State.schedule_service_le h.service_le,
    hquiet ▸ s.steppedBus_quiet_le⟩

theorem State.takeStart_busInRange {s : State} (h : s.sbi.InRange s.quietBound) :
    s.takeStart.sbi.InRange s.takeStart.quietBound := by
  have hentered {b : ShareBus} (hb : b.idleWatch = s.sbi.idleWatch) (q : Nat) :
      ShareBus.InRange { b with interval := .one, service := 0, quiet := 0, wake := false } q :=
    ⟨hb ▸ h.idle_le, Nat.zero_le _, Nat.zero_le _⟩
  rcases s.takeStart_cases with ⟨-, heq⟩ | ⟨-, heq⟩ | ⟨-, -, heq⟩ | ⟨code, index, -, -, heq⟩ | ⟨-, heq⟩ <;> rw [heq]
  · exact h
  · exact h
  · exact hentered (b := { s.sbi with phase := .watching, gapSeen := false }) rfl _
  · exact h
  · exact hentered (b := s.sbi) rfl _

theorem State.takeStop_busInRange {s : State} {q : Nat} (h : s.sbi.InRange q) : s.takeStop.sbi.InRange q := by
  rcases s.takeStop_cases with ⟨-, heq⟩ | ⟨-, heq⟩ | ⟨-, heq⟩ | ⟨-, heq⟩ <;> rw [heq]
  · exact h
  · exact h
  · exact ShareBus.inRange_of_quiet h rfl rfl rfl
  · rw [State.leaveRun_eq]
    exact ShareBus.inRange_of_quiet h rfl rfl rfl

theorem State.reportDuplicate_busInRange {s : State} {q : Nat} (h : s.sbi.InRange q) : s.reportDuplicate.sbi.InRange q := by
  cases hd : s.ctl.dupLatch with
  | true =>
    rw [State.reportDuplicate_of_latched hd]
    exact ShareBus.inRange_congr (b := s.sbi) rfl h
  | false =>
    cases hs : s.ctl.state with
    | config | stopping | stopped =>
      rw [State.reportDuplicate_of_stopped hd (by simp [hs])]
      exact ShareBus.inRange_congr (b := s.sbi) rfl h
    | listen =>
      rw [State.reportDuplicate_of_listen hd hs]
      exact ShareBus.inRange_of_quiet h rfl rfl rfl
    | run =>
      rw [State.reportDuplicate_of_run hd hs]
      exact ShareBus.inRange_of_quiet h rfl rfl rfl

theorem State.receiveFrame_busInRange {s : State} {q : Nat} (h : s.sbi.InRange q) (bytes : List Byte) :
    (s.receiveFrame bytes).sbi.InRange q := by
  have hend : s.endCollection.sbi.InRange q := ShareBus.inRange_congr (b := s.sbi) rfl h
  rw [State.receiveFrame_eq]
  split
  · exact hend
  · rcases s.endCollection.judgeFrame_cases bytes with ⟨-, hj⟩ | ⟨f, -, ⟨-, hj⟩ | ⟨-, hj⟩ | ⟨-, -, hj⟩⟩ <;> rw [hj]
    · exact ShareBus.inRange_congr (b := s.endCollection.sbi) rfl hend
    · exact hend
    · exact State.reportDuplicate_busInRange hend
    · rw [State.acceptFrame_eq]
      exact ShareBus.inRange_congr (b := s.endCollection.sbi) rfl hend

/-- No command but START and the clearing ones changes the bound. -/
theorem effect_quietBound {c : Instr} (hclear : clears c = false) (hstart : ¬∃ arg words, c = .start arg words) (s : State) :
    (effect c s).quietBound = s.quietBound := by
  unfold State.quietBound
  by_cases hs : s.ctl.state = .config
  · have hconfig : (effect c s).ctl.state = .config :=
      Decidable.byContradiction fun hne => (effect_ne_config hclear hne).elim (fun h => h hs) hstart
    rw [if_pos hs, if_pos hconfig]
  · rw [if_neg hs, if_neg fun hconfig => hs (effect_config hclear hconfig), effect_param hclear hs]

theorem State.quietCount_le_quietBound (s : State) : s.param Idx.quietCount ≤ s.quietBound := by
  unfold State.quietBound
  split
  · exact (s.param_le Idx.quietCount (by decide)).2
  · exact Nat.le_refl _

theorem effect_busInRange {c : Instr} (hclear : clears c = false) {s : State} (h : s.sbi.InRange s.quietBound) :
    (effect c s).sbi.InRange (effect c s).quietBound := by
  by_cases hstart : ∃ arg words, c = .start arg words
  · obtain ⟨arg, words, rfl⟩ := hstart
    exact State.takeStart_busInRange (s := s.deliver _) h
  rw [effect_quietBound hclear hstart]
  cases hset : setsBus c with
  | false => exact ShareBus.inRange_congr (effect_busCounters hclear hset s) h
  | true =>
    cases c with
    | start arg words => exact absurd ⟨arg, words, rfl⟩ hstart
    | stop arg words => exact State.takeStop_busInRange (s := s.deliver _) h
    | periodTimerExpiry elapsed =>
      rw [effect, s.takeExpiry_eq]
      refine ⟨?_, h.service_le, h.quiet_le⟩
      dsimp only
      split
      exacts [Nat.min_le_left _ _, Nat.zero_le _]
    | commandShaping =>
      refine ite_keeps (P := fun t => t.sbi.InRange s.quietBound) h ?_
      obtain ⟨hidle, hservice, hquiet⟩ := State.shapeCommand_busInRange h
      exact ⟨hidle, hservice, hquiet.trans s.quietCount_le_quietBound⟩
    | frameReceived bytes =>
      exact onBus_keeps (P := fun t => t.sbi.InRange s.quietBound) h fun _ => State.receiveFrame_busInRange h bytes
    | _ => exact nomatch hset

/-! ## The Health Unit (R191, R195, R198) -/

/-- The unit's counters and the time of its pulse. -/
def HealthUnit.inRange (hu : HealthUnit) : Prop :=
  (hu.frameReject ≤ 65535 ∧ hu.txOverwrite ≤ 65535 ∧ hu.txErrors ≤ 65535 ∧ hu.missed ≤ 65535 ∧ hu.storeOverrun ≤ 65535)
  ∧ hu.pmkLeft ≤ 2

/-- The flags are no counter. -/
theorem HealthUnit.inRange_of_flags {hu hu' : HealthUnit} (h : hu' = { hu with flags := hu'.flags }) (hh : hu.inRange) :
    hu'.inRange := by
  rw [h]
  exact hh

theorem State.reportOverwrite_huInRange {s : State} (h : s.hu.inRange) : s.reportOverwrite.hu.inRange := by
  obtain ⟨⟨hreject, -, herrors, hmissed, hoverrun⟩, hpulse⟩ := h
  exact ⟨⟨hreject, growTo_le _ _ _, herrors, hmissed, hoverrun⟩, hpulse⟩

theorem State.takeWindow_huInRange {s : State} (h : s.hu.inRange) (words : List Word) : (s.takeWindow words).hu.inRange := by
  unfold State.takeWindow
  split
  · split <;> exact h
  · exact h

theorem State.takeDemand_huInRange {s : State} (h : s.hu.inRange) (mode : Byte) (words : List Word) :
    (s.takeDemand mode words).hu.inRange := by
  unfold State.takeDemand
  split
  · dsimp only
    split <;> exact h
  · exact h

theorem State.takeLimits_huInRange {s : State} (h : s.hu.inRange) (flag : Byte) (words : List Word) :
    (s.takeLimits flag words).hu.inRange := by
  unfold State.takeLimits
  split
  · split
    · exact h
    · dsimp only
      split <;> exact h
  · exact h

theorem State.takeParameterWord_huInRange {s : State} (h : s.hu.inRange) (count : Byte) (w : Word) :
    (s.takeParameterWord count w).hu.inRange := by
  by_cases hacts : s.ctl.state = .config ∧ s.lp.wordsTaken < count.toNat
  · rw [State.takeParameterWord_of_acting hacts.1 hacts.2]
    rcases s.writeAtCursor_cases w with ⟨-, heq⟩ | ⟨-, -, heq⟩ | ⟨-, -, heq⟩ <;> rw [heq]
    · obtain ⟨⟨hreject, hoverwrite, herrors, hmissed, -⟩, hpulse⟩ := h
      exact ⟨⟨hreject, hoverwrite, herrors, hmissed, growTo_le _ _ _⟩, hpulse⟩
    · exact h
    · exact h
  · rw [State.takeParameterWord_of_idle (by rwa [not_and_or, Nat.not_lt] at hacts)]
    exact h

theorem State.takeWriteWords_huInRange {s : State} (h : s.hu.inRange) (count : Byte) (words : List Word) :
    (s.takeWriteWords count words).hu.inRange := by
  have hwords (l : List Word) : (s.takeParameterWords count l).hu.inRange := by
    induction l generalizing s with
    | nil => exact h
    | cons w l ih => exact ih (State.takeParameterWord_huInRange h count w)
  rw [s.takeWriteWords_eq]
  dsimp only
  split <;> exact hwords _

theorem State.takeStart_huInRange {s : State} (h : s.hu.inRange) : s.takeStart.hu.inRange := by
  rcases s.takeStart_cases with ⟨-, heq⟩ | ⟨-, heq⟩ | ⟨-, -, heq⟩ | ⟨code, index, -, -, heq⟩ | ⟨-, heq⟩ <;> rw [heq] <;> exact h

theorem State.takeStop_huInRange {s : State} (h : s.hu.inRange) : s.takeStop.hu.inRange := by
  rcases s.takeStop_cases with ⟨-, heq⟩ | ⟨-, heq⟩ | ⟨-, heq⟩ | ⟨-, heq⟩ <;> rw [heq] <;> exact h

theorem State.shapeCommand_huInRange {s : State} (h : s.hu.inRange) : s.shapeCommand.hu.inRange := by
  have hoverwrite : (if s.schedule.1 = true ∧ s.sbi.slot ≠ none then s.reportOverwrite.hu else s.hu).inRange := by
    split
    exacts [State.reportOverwrite_huInRange h, h]
  rw [s.shapeCommand_hu]
  refine ⟨hoverwrite.1, ?_⟩
  dsimp only
  split
  exacts [Nat.le_refl 2, hoverwrite.2]

theorem State.loseContention_huInRange {s : State} (h : s.hu.inRange) : s.loseContention.hu.inRange := by
  unfold State.loseContention
  split
  · exact h
  · dsimp only
    split
    · exact h
    · split
      · exact h
      · exact State.reportOverwrite_huInRange (s := { s with sbi := s.sbi.release .collecting }) h

theorem State.abandonFrame_huInRange {s : State} (h : s.hu.inRange) : s.abandonFrame.hu.inRange := by
  unfold State.abandonFrame
  split
  · exact h
  · obtain ⟨⟨hreject, hoverwrite, -, hmissed, hoverrun⟩, hpulse⟩ := h
    exact ⟨⟨hreject, hoverwrite, growTo_le _ _ _, hmissed, hoverrun⟩, hpulse⟩

theorem State.receiveFrame_huInRange {s : State} (h : s.hu.inRange) (bytes : List Byte) : (s.receiveFrame bytes).hu.inRange := by
  have hend : s.endCollection.hu.inRange := h
  obtain ⟨⟨hreject, hoverwrite, herrors, hmissed, hoverrun⟩, hpulse⟩ := h
  rw [State.receiveFrame_eq]
  split
  · exact hend
  · rcases s.endCollection.judgeFrame_cases bytes with ⟨-, hj⟩ | ⟨f, -, ⟨-, hj⟩ | ⟨-, hj⟩ | ⟨-, -, hj⟩⟩ <;> rw [hj]
    · exact ⟨⟨growTo_le _ _ _, hoverwrite, herrors, hmissed, hoverrun⟩, hpulse⟩
    · exact hend
    · rw [State.reportDuplicate_frame]
      exact hend
    · rw [State.acceptFrame_eq]
      refine ⟨⟨hreject, hoverwrite, herrors, Nat.min_le_left _ _, hoverrun⟩, ?_⟩
      dsimp only
      split
      exacts [Nat.le_refl 2, hpulse]

theorem effect_huInRange {c : Instr} (hclear : clears c = false) {s : State} (h : s.hu.inRange) : (effect c s).hu.inRange := by
  have hkeeps {p : Prop} [Decidable p] {t : State} (ht : t.hu.inRange) : (if p then t else s).hu.inRange :=
    ite_keeps (P := fun u => u.hu.inRange) h ht
  have honBus {f : State → State} (hf : (f s).hu.inRange) : (s.onBus f).hu.inRange :=
    onBus_keeps (P := fun u => u.hu.inRange) h fun _ => hf
  have hflags {t : State} (ht : t.hu = { s.hu with flags := t.hu.flags }) : t.hu.inRange := HealthUnit.inRange_of_flags ht h
  cases c with
  | powerOnReset _ _ | rstnAssert | rstnRelease _ _ | supplyOrClockInvalid | resetStation _ _ => exact nomatch hclear
  | start arg words => exact State.takeStart_huInRange (s := s.deliver _) h
  | stop arg words => exact State.takeStop_huInRange (s := s.deliver _) h
  | setWindow arg words => exact State.takeWindow_huInRange (s := s.deliver _) h words
  | writeWords count words => exact State.takeWriteWords_huInRange h count words
  | setDemand mode words => exact State.takeDemand_huInRange (s := s.deliver _) h mode words
  | setLimits flag words => exact State.takeLimits_huInRange (s := s.deliver _) h flag words
  | parameterWordTaken count word => exact State.takeParameterWord_huInRange h count word
  | readWords _ _ | readStatus _ _ | readSnapshot _ _ | readPeer _ _ | unknownCommand _ _ _ | incompleteTransaction => exact h
  | readDiag _ _ => exact ⟨⟨Nat.zero_le _, Nat.zero_le _, Nat.zero_le _, Nat.zero_le _, Nat.zero_le _⟩, h.2⟩
  | pmkPulseEnd => exact ⟨h.1, Nat.zero_le _⟩
  | periodTimerExpiry elapsed => exact hflags (of_frame State.hu (s.takeExpiry_frame elapsed) rfl)
  | viewLatch => exact hkeeps (hflags (of_frame State.hu s.latchView_frame rfl))
  | slipEvaluation => exact hkeeps h
  | handoverStep => exact hkeeps (hflags (of_frame State.hu s.stepHandover_frame rfl))
  | allocationComputation => exact hkeeps (hflags (of_frame State.hu s.allocate_frame rfl))
  | commandShaping => exact hkeeps (State.shapeCommand_huInRange h)
  | wheelPulse wheel elapsed =>
    rw [effect, s.takePulse_frame wheel elapsed]
    exact h
  | interframeGap =>
    refine honBus ?_
    rw [s.takeGap_frame]
    exact h
  | firstStartBitAfterGap => exact honBus h
  | contentionLost => exact State.loseContention_huInRange h
  | txError => exact State.abandonFrame_huInRange h
  | frameTxComplete =>
    rw [effect, s.completeFrame_frame]
    exact h
  | frameReceived bytes => exact honBus (State.receiveFrame_huInRange h bytes)

/-! ## Every range, every step -/

theorem State.healthRange_iff (s : State) : s.healthRange ↔ s.sbi.InRange s.quietBound ∧ s.hu.inRange := by
  have hmax : s.param Idx.quietCount ≤ 4000 := (s.param_le Idx.quietCount (by decide)).2
  unfold State.quietBound
  constructor
  · rintro ⟨⟨hidle, hservice, hquiet⟩, hbound, hcounters, hpulse⟩
    refine ⟨⟨hidle, hservice, ?_⟩, hcounters, hpulse⟩
    split
    next => exact hquiet
    next hs => exact hbound hs
  · rintro ⟨⟨hidle, hservice, hquiet⟩, hcounters, hpulse⟩
    refine ⟨⟨hidle, hservice, ?_⟩, fun hs => by rwa [if_neg hs] at hquiet, hcounters, hpulse⟩
    split at hquiet
    exacts [hquiet, hquiet.trans hmax]

theorem effect_healthRange {c : Instr} (hclear : clears c = false) {s : State} (h : s.healthRange) :
    (effect c s).healthRange := by
  rw [State.healthRange_iff] at h ⊢
  exact ⟨effect_busInRange hclear h.1, effect_huInRange hclear h.2⟩

theorem effect_rangeInv (c : Instr) {s : State} (hlife : s.lifeInv) (h : s.rangeInv) : (effect c s).rangeInv := by
  cases hclear : clears c with
  | true =>
    rcases effect_of_clears hclear s with ⟨u, supply, rstn, sdo, heq⟩ | heq <;> rw [heq]
    · exact u.clearRuntime_rangeInv supply rstn sdo
    · exact h
  | false =>
    obtain ⟨hport, hwheels, htable, hslip, htorque, hhealth⟩ := h
    have htl : s.slu.tl ≤ 20000 := by
      obtain ⟨⟨-, -, -, htl, -⟩, -⟩ := hslip
      exact htl
    have happlied : s.csh.applied.natAbs ≤ 20000 := by
      obtain ⟨-, -, ⟨-, -, happlied⟩, -⟩ := htorque
      exact happlied
    exact ⟨effect_portRange hclear hport, effect_wheelRange hclear hwheels, effect_tableRange hclear hport htable,
      effect_slipRange hclear hwheels htable happlied hslip, effect_torqueRange hclear hlife htl htorque,
      effect_healthRange hclear hhealth⟩

theorem effect_silent (c : Instr) {s : State} (h : s.silentInv) : (effect c s).silentInv := by
  cases hclear : clears c with
  | true =>
    rcases effect_of_clears hclear s with ⟨u, _, _, _, heq⟩ | heq <;> rw [heq]
    · exact reset_silentInv
    · exact h
  | false => exact effect_silentInv hclear h

/-- Settles O59: each block's ranges are kept by every command that does not clear them, and hold of a cleared state. -/
theorem rangesAreKept : Obligations.RangesAreKept := fun _ _ hlife hrange hsilent hstep =>
  (step_keeps (P := fun u => u.lifeInv ∧ u.rangeInv ∧ u.silentInv) (fun _ _ hs => hs)
    (fun c _ ⟨hl, hr, hs⟩ => ⟨effect_lifeInv c hl, effect_rangeInv c hl hr, effect_silent c hs⟩)
    ⟨hlife, hrange, hsilent⟩ hstep).2

end Sys2Proof.Machine
end
